-- ==== Sys2Proof/Word.lean ====
section
/-! DEFINITION. The widths of the machine (10_state.md R20 to R40): names for the bit vectors the spec speaks of. -/

namespace Sys2Proof

/-- A 4-bit value: registers, data cells, ports, immediates (00_scope.md R1). -/
abbrev Nibble := BitVec 4

/-- A byte of program memory (10_state.md R39). -/
abbrev Byte := BitVec 8

/-- An 8-bit data address (10_state.md R38). -/
abbrev DataAddr := BitVec 8

/-- A 12-bit register of three nibbles: DP, TA, TB (10_state.md R32 to R34). -/
abbrev Triple := BitVec 12

/-- A program address as PC holds it: the 13 bits of 10_state.md R23 and one more bit on the left, because `PC + n` "is integer
addition on the 13-bit value" whose result "is not wrapped" (00_scope.md R14, log entry 7). -/
abbrev CodeAddr := BitVec 14

/-- A port number 0..31 (20_memory.md R66). -/
abbrev PortNo := BitVec 5

/-- A bit number 0..3 (00_scope.md R15). -/
abbrev BitNo := BitVec 2

/-- The six interrupt latches, or a mask over them (10_state.md R37). -/
abbrev Latches := BitVec 6

end Sys2Proof
end

