-- ==== Sys2Proof/Machine/Flags.lean ====
section
/-! DEFINITION. The arithmetic and bit helpers from which every flag is computed (00_scope.md R13, R15): exact integer arithmetic,
narrowed at the end. -/

namespace Sys2Proof.Machine

/-- `isz(v)`: "1 when v = 0, else 0". -/
def isz (v : Nibble) : Bool := v == 0#4

/-- A one-bit value as an integer. -/
def bit (c : Bool) : Nat := if c then 1 else 0

/-- `add4(a, b, c)`: the sum modulo 16, and the carry out (sum >= 16). -/
def add4 (a b : Nibble) (c : Bool) : Nibble × Bool :=
  let sum := a.toNat + b.toNat + bit c
  (BitVec.ofNat 4 sum, decide (16 ≤ sum))

/-- `sub4(a, b, bi)`: the difference modulo 16, and no-borrow (difference >= 0). -/
def sub4 (a b : Nibble) (bi : Bool) : Nibble × Bool :=
  let d : Int := (a.toNat : Int) - (b.toNat : Int) - (bit bi : Int)
  (BitVec.ofInt 4 d, decide (0 ≤ d))

/-- `1 << b`, "the 4-bit value with only bit b set" (00_scope.md R7). -/
def bitMask (b : BitNo) : Nibble := 1#4 <<< b.toNat

/-- `v AND NOT (1 << b)` (00_scope.md R15). -/
def clearBit (v : Nibble) (b : BitNo) : Nibble := v &&& ~~~(bitMask b)

/-- `v OR (1 << b)` (00_scope.md R15). -/
def setBit (v : Nibble) (b : BitNo) : Nibble := v ||| bitMask b

/-- `v[b]` (00_scope.md R15). -/
def testBit (v : Nibble) (b : BitNo) : Bool := v.getLsbD b.toNat

end Sys2Proof.Machine
end

