-- ==== Sys2Proof/Config.lean ====
section
/-! DEFINITION. The implementation parameters of 00_scope.md R5 as plain data, and the one free value (what a port read returns).
State holds a `Params`, fixed for a run (10_state.md R44), so that a statement about every state speaks of every chip and every
value of an OPEN parameter (log entry 3). -/

namespace Sys2Proof

/-- The three chips (00_scope.md R1, R5, decision D3). -/
inductive Chip where
  | rom2K
  | rom4K
  | rom8K
deriving DecidableEq, Repr

/-- ROM_SIZE: bytes of program memory (00_scope.md R5). -/
def Chip.romSize : Chip → Nat
  | .rom2K => 2048
  | .rom4K => 4096
  | .rom8K => 8192

/-- HAS_GF: the general flag and CGF, SGF, TGS (00_scope.md R5, 10_state.md R28). -/
def Chip.hasGf : Chip → Bool
  | .rom8K => false
  | _ => true

/-- HAS_SLBR (00_scope.md R5, 30_encoding.md R109). -/
def Chip.hasSlbr : Chip → Bool
  | .rom8K => true
  | _ => false

/-- One interrupt source of INT_CONFIG (60_exceptions.md R402): its latch i, its vector vec(i), and its enable predicate
en(i, EIR) as a table over the sixteen values of EIR (bit e says whether EIR = e enables the source). DESIGN CHOICE, log entry 10. -/
structure IntSource where
  latch : Fin 6
  vector : BitVec 13
  enables : BitVec 16
deriving DecidableEq, Repr

/-- The parameters of 00_scope.md R5. -/
structure Params where
  /-- ROM_SIZE, and with it HAS_GF, HAS_SLBR, TABLE_BASE and OUT12_BASE. -/
  chip : Chip
  /-- RAM_SIZE, 16..240 (decision D4). -/
  ramSize : Nat
  /-- EXAE_OPCODE; `none`: EXAE cannot be decoded (30_encoding.md R114). -/
  exaeOpcode : Option Byte
  /-- SLBR_PREFIX: the first byte of SLBR for a[12] = 0 and for a[12] = 1; `none`: SLBR cannot be decoded (30_encoding.md R103). -/
  slbrPrefix : Option (Byte × Byte)
  /-- RESET_PC (decision D17). -/
  resetPc : BitVec 13
  /-- INT_CONFIG, the sources from the highest priority to the lowest; `none`: absent (decision D15). -/
  intConfig : Option (List IntSource)
  /-- PORT_READABLE: bit p says whether port p can be read (decisions D18, D32). -/
  readable : BitVec 32
  /-- PORT_WRITABLE: bit p says whether port p can be written. -/
  writable : BitVec 32
deriving DecidableEq, Repr

/-- The values of State.reset: the defaults of 00_scope.md R5 where it has one; the 4K chip and RAM_SIZE = 240, which have none,
are those of the spec's own vectors (95_test_vectors.md, conventions): DESIGN CHOICE, log entry 3. EXAE_OPCODE = 75h and
SLBR_PREFIX = 57h/55h are PRESUMED, log entries 4 and 5. -/
def Params.default : Params where
  chip := .rom4K
  ramSize := 240
  exaeOpcode := some 0x75#8
  slbrPrefix := some (0x57#8, 0x55#8)
  resetPc := 0#13
  intConfig := none
  readable := 0x0000FFFF#32
  writable := 0xFFFFFFFF#32

/-- The first bytes that no instruction of every chip uses: 75h and 7Ah on all chips (30_encoding.md R108, R114). -/
def exaeCandidates : List Byte := [0x75#8, 0x7A#8]

/-- The first bytes an SLBR_PREFIX may take: on the 8K chip "55h and 57h are reserved unless SLBR_PREFIX assigns them", and 54h is reserved
whatever it assigns (30_encoding.md R109, decision D26). -/
def slbrCandidates : List Byte := [0x55#8, 0x57#8]

/-- EXAE_OPCODE "must be one of the first bytes DOI leaves unassigned, 75h or 7Ah" (30_encoding.md R114). -/
def Params.exaeOk (p : Params) : Bool :=
  match p.exaeOpcode with
  | none => true
  | some c => exaeCandidates.contains c

/-- SLBR_PREFIX maps the two values of a[12] to 55h and 57h, in one order or the other: two different bytes, or the first byte could not
"also carry a[12]" (30_encoding.md R103). DEDUCED, log entry 5. -/
def Params.slbrOk (p : Params) : Bool :=
  match p.slbrPrefix with
  | none => true
  | some (c0, c1) => c0 != c1 && slbrCandidates.contains c0 && slbrCandidates.contains c1

/-- INT_CONFIG speaks of each of the six latches once (60_exceptions.md R402). -/
def Params.intOk (p : Params) : Bool :=
  match p.intConfig with
  | none => true
  | some srcs => decide ((srcs.map IntSource.latch).Nodup) && srcs.length == 6

/-- The parameters obey 00_scope.md R5. -/
def Params.wf (p : Params) : Bool :=
  decide (16 ≤ p.ramSize) && decide (p.ramSize ≤ 240) && p.exaeOk && p.slbrOk && p.intOk

/-- FREE VALUE: the answer of the environment to the n-th port read, a read of port p (10_state.md R40, 93_implementation_defined.md
U29: "any value of 4 bits"). No body: nothing can be proved of it. DESIGN CHOICE, log entry 13. -/
opaque Config.portInput (n : Nat) (p : PortNo) : Nibble

end Sys2Proof
end

