-- ==== Sys2Proof/Syntax.lean ====
section
/-! DEFINITION. The instructions: one constructor per row of spec/opcode_table.json, operands as the encodings give them
(30_encoding.md R105: unsigned fields, copied without scaling or extension). SCALL holds its selector n, SBR the six address bits it
encodes. -/

namespace Sys2Proof

/-- The 109 instructions (files 40 to 45, rule R(200+n) for DOI section 2.n). -/
inductive Instr where
  /-- `ADCAM`, R201. -/
  | adcam
  /-- `ADD #k, y`, R202. -/
  | add (k : Nibble) (y : Nibble)
  /-- `ADDA #k`, R203. -/
  | adda (k : Nibble)
  /-- `ADDAM`, R204. -/
  | addam
  /-- `ADDAH #k`, R205. -/
  | addah (k : Nibble)
  /-- `ADDL #k`, R206. -/
  | addl (k : Nibble)
  /-- `ADDM #k`, R207. -/
  | addm (k : Nibble)
  /-- `ANDA #k`, R208. -/
  | anda (k : Nibble)
  /-- `ANDAM`, R209. -/
  | andam
  /-- `ANDM #k`, R210. -/
  | andm (k : Nibble)
  /-- `CGF`, R211. -/
  | cgf
  /-- `CIL r`, R212. -/
  | cil (r : Latches)
  /-- `CLM b`, R213. -/
  | clm (b : BitNo)
  /-- `CLP p, b`, R214. -/
  | clp (p : Nibble) (b : BitNo)
  /-- `CLPL`, R215. -/
  | clpl
  /-- `CLR y, b`, R216. -/
  | clr (y : Nibble) (b : BitNo)
  /-- `CMP #k, y`, R217. -/
  | cmp (k : Nibble) (y : Nibble)
  /-- `CMPA x`, R218. -/
  | cmpa (x : DataAddr)
  /-- `CMPM`, R219. -/
  | cmpm
  /-- `CMPH #k`, R220. -/
  | cmph (k : Nibble)
  /-- `CMPIA #k`, R221. -/
  | cmpia (k : Nibble)
  /-- `CMPL #k`, R222. -/
  | cmpl (k : Nibble)
  /-- `DECA`, R223. -/
  | deca
  /-- `DECL`, R224. -/
  | decl
  /-- `DECM`, R225. -/
  | decm
  /-- `DICIL r`, R226. -/
  | dicil (r : Latches)
  /-- `EICIL r`, R227. -/
  | eicil (r : Latches)
  /-- `EXA x`, R228. -/
  | exa (x : DataAddr)
  /-- `EXAE`, R229. -/
  | exae
  /-- `EXAH`, R230. -/
  | exah
  /-- `EXAL`, R231. -/
  | exal
  /-- `EXAM`, R232. -/
  | exam
  /-- `EXHL x`, R233. -/
  | exhl (x : DataAddr)
  /-- `INA p`, R234. -/
  | ina (p : Nibble)
  /-- `INCA`, R235. -/
  | inca
  /-- `INCL`, R236. -/
  | incl
  /-- `INCM`, R237. -/
  | incm
  /-- `INM p`, R238. -/
  | inm (p : Nibble)
  /-- `LBR a`, R239. -/
  | lbr (a : BitVec 12)
  /-- `LCALL a`, R240. -/
  | lcall (a : BitVec 11)
  /-- `LDA x`, R241. -/
  | lda (x : DataAddr)
  /-- `LDADPL`, R242. -/
  | ldadpl
  /-- `LDADPM`, R243. -/
  | ldadpm
  /-- `LDADPH`, R244. -/
  | ldadph
  /-- `LDAM`, R245. -/
  | ldam
  /-- `LDASP`, R246. -/
  | ldasp
  /-- `LDATAL`, R247. -/
  | ldatal
  /-- `LDATAM`, R248. -/
  | ldatam
  /-- `LDATAH`, R249. -/
  | ldatah
  /-- `LDATBL`, R250. -/
  | ldatbl
  /-- `LDATBM`, R251. -/
  | ldatbm
  /-- `LDATBH`, R252. -/
  | ldatbh
  /-- `LDAX`, R253. -/
  | ldax
  /-- `LDAXI`, R254. -/
  | ldaxi
  /-- `LDH #k`, R255. -/
  | ldh (k : Nibble)
  /-- `LDHL x`, R256. -/
  | ldhl (x : DataAddr)
  /-- `LDIA #k`, R257. -/
  | ldia (k : Nibble)
  /-- `LDL #k`, R258. -/
  | ldl (k : Nibble)
  /-- `NOP`, R259. -/
  | nop
  /-- `ORA #k`, R260. -/
  | ora (k : Nibble)
  /-- `ORAM`, R261. -/
  | oram
  /-- `ORM #k`, R262. -/
  | orm (k : Nibble)
  /-- `OUT #k, p`, R263. -/
  | out (k : Nibble) (p : Nibble)
  /-- `OUTA p`, R264. -/
  | outa (p : PortNo)
  /-- `OUT12`, R265. -/
  | out12
  /-- `RET`, R266. -/
  | ret
  /-- `RLCA`, R267. -/
  | rlca
  /-- `RRCA`, R268. -/
  | rrca
  /-- `RTI`, R269. -/
  | rti
  /-- `SBCAM`, R270. -/
  | sbcam
  /-- `SBR a`, R271. -/
  | sbr (a : BitVec 6)
  /-- `SCALL a`, R272. -/
  | scall (n : Nibble)
  /-- `SEM b`, R273. -/
  | sem (b : BitNo)
  /-- `SEP p, b`, R274. -/
  | sep (p : Nibble) (b : BitNo)
  /-- `SEPL`, R275. -/
  | sepl
  /-- `SET y, b`, R276. -/
  | set (y : Nibble) (b : BitNo)
  /-- `SGF`, R277. -/
  | sgf
  /-- `SLBR a`, R278. -/
  | slbr (a : BitVec 13)
  /-- `STA x`, R279. -/
  | sta (x : DataAddr)
  /-- `STADPL`, R280. -/
  | stadpl
  /-- `STADPM`, R281. -/
  | stadpm
  /-- `STADPH`, R282. -/
  | stadph
  /-- `STAM`, R283. -/
  | stam
  /-- `STAMD`, R284. -/
  | stamd
  /-- `STAMI`, R285. -/
  | stami
  /-- `STASP`, R286. -/
  | stasp
  /-- `STATAL`, R287. -/
  | statal
  /-- `STATAM`, R288. -/
  | statam
  /-- `STATAH`, R289. -/
  | statah
  /-- `STATBL`, R290. -/
  | statbl
  /-- `STATBM`, R291. -/
  | statbm
  /-- `STATBH`, R292. -/
  | statbh
  /-- `STD #k, y`, R293. -/
  | std (k : Nibble) (y : Nibble)
  /-- `STDMI #k`, R294. -/
  | stdmi (k : Nibble)
  /-- `SUBA #k`, R295. -/
  | suba (k : Nibble)
  /-- `SUBM #k`, R296. -/
  | subm (k : Nibble)
  /-- `TFA b`, R297. -/
  | tfa (b : BitNo)
  /-- `TFCFC`, R298. -/
  | tfcfc
  /-- `TFM b`, R299. -/
  | tfm (b : BitNo)
  /-- `TFP p, b`, R300. -/
  | tfp (p : Nibble) (b : BitNo)
  /-- `TFPL`, R301. -/
  | tfpl
  /-- `TGS`, R302. -/
  | tgs
  /-- `THA`, R303. -/
  | tha
  /-- `TLA`, R304. -/
  | tla
  /-- `TT y, b`, R305. -/
  | tt (y : Nibble) (b : BitNo)
  /-- `TTCFS`, R306. -/
  | ttcfs
  /-- `TTP p, b`, R307. -/
  | ttp (p : Nibble) (b : BitNo)
  /-- `TZS`, R308. -/
  | tzs
  /-- `XORAM`, R309. -/
  | xoram
deriving DecidableEq, Repr

/-- Code Bytes: the length in bytes (30_encoding.md R90, 70_reset_and_hazards.md R456). -/
def Instr.length : Instr → Nat
  | .adcam => 1
  | .add _ _ => 2
  | .adda _ => 2
  | .addam => 1
  | .addah _ => 2
  | .addl _ => 2
  | .addm _ => 2
  | .anda _ => 2
  | .andam => 1
  | .andm _ => 2
  | .cgf => 1
  | .cil _ => 2
  | .clm _ => 1
  | .clp _ _ => 2
  | .clpl => 1
  | .clr _ _ => 2
  | .cmp _ _ => 2
  | .cmpa _ => 2
  | .cmpm => 1
  | .cmph _ => 2
  | .cmpia _ => 1
  | .cmpl _ => 2
  | .deca => 1
  | .decl => 1
  | .decm => 1
  | .dicil _ => 2
  | .eicil _ => 2
  | .exa _ => 2
  | .exae => 1
  | .exah => 1
  | .exal => 1
  | .exam => 1
  | .exhl _ => 2
  | .ina _ => 2
  | .inca => 1
  | .incl => 1
  | .incm => 1
  | .inm _ => 2
  | .lbr _ => 2
  | .lcall _ => 2
  | .lda _ => 2
  | .ldadpl => 2
  | .ldadpm => 2
  | .ldadph => 2
  | .ldam => 1
  | .ldasp => 2
  | .ldatal => 2
  | .ldatam => 2
  | .ldatah => 2
  | .ldatbl => 2
  | .ldatbm => 2
  | .ldatbh => 2
  | .ldax => 1
  | .ldaxi => 1
  | .ldh _ => 1
  | .ldhl _ => 2
  | .ldia _ => 1
  | .ldl _ => 1
  | .nop => 1
  | .ora _ => 2
  | .oram => 1
  | .orm _ => 2
  | .out _ _ => 2
  | .outa _ => 2
  | .out12 => 1
  | .ret => 1
  | .rlca => 1
  | .rrca => 1
  | .rti => 1
  | .sbcam => 1
  | .sbr _ => 1
  | .scall _ => 1
  | .sem _ => 1
  | .sep _ _ => 2
  | .sepl => 1
  | .set _ _ => 2
  | .sgf => 1
  | .slbr _ => 3
  | .sta _ => 2
  | .stadpl => 2
  | .stadpm => 2
  | .stadph => 2
  | .stam => 1
  | .stamd => 1
  | .stami => 1
  | .stasp => 2
  | .statal => 2
  | .statam => 2
  | .statah => 2
  | .statbl => 2
  | .statbm => 2
  | .statbh => 2
  | .std _ _ => 2
  | .stdmi _ => 1
  | .suba _ => 2
  | .subm _ => 2
  | .tfa _ => 1
  | .tfcfc => 1
  | .tfm _ => 1
  | .tfp _ _ => 2
  | .tfpl => 1
  | .tgs => 1
  | .tha => 1
  | .tla => 1
  | .tt _ _ => 2
  | .ttcfs => 1
  | .ttp _ _ => 2
  | .tzs => 1
  | .xoram => 1

end Sys2Proof
end

