-- ==== Sys2Proof/WellFormed.lean ====
section
/-! DEFINITION. Which instructions the chip has and which operands their encodings admit (30_encoding.md R96, R103, R104, R108, R109,
R114). Every other constructor admits every operand. -/

namespace Sys2Proof

/-- The ten address bytes that name a special register after 69h and 6Ah (10_state.md R41). -/
def windowAddrs : List DataAddr :=
  [0xF4#8, 0xF5#8, 0xF6#8, 0xF8#8, 0xF9#8, 0xFA#8, 0xFC#8, 0xFD#8, 0xFE#8, 0xFF#8]

/-- The address byte names a special register, so LDA and STA with it are the special-register forms (30_encoding.md R104, R110). -/
def isWindowAddr (x : DataAddr) : Bool := windowAddrs.contains x

/-- The instruction has an encoding on this chip under these parameters. -/
def Instr.wf (p : Params) : Instr → Bool
  | .adcam => true
  | .add _ _ => true
  | .adda _ => true
  | .addam => true
  | .addah _ => true
  | .addl _ => true
  | .addm _ => true
  | .anda _ => true
  | .andam => true
  | .andm _ => true
  | .cgf => p.chip.hasGf
  | .cil _ => true
  | .clm _ => true
  | .clp _ _ => true
  | .clpl => true
  | .clr _ _ => true
  | .cmp _ _ => true
  | .cmpa _ => true
  | .cmpm => true
  | .cmph _ => true
  | .cmpia _ => true
  | .cmpl _ => true
  | .deca => true
  | .decl => true
  | .decm => true
  | .dicil _ => true
  | .eicil _ => true
  | .exa _ => true
  | .exae => p.exaeOpcode.isSome
  | .exah => true
  | .exal => true
  | .exam => true
  | .exhl x => x.extractLsb' 0 2 == 0#2
  | .ina _ => true
  | .inca => true
  | .incl => true
  | .incm => true
  | .inm _ => true
  | .lbr _ => true
  | .lcall _ => true
  | .lda x => !isWindowAddr x
  | .ldadpl => true
  | .ldadpm => true
  | .ldadph => true
  | .ldam => true
  | .ldasp => true
  | .ldatal => true
  | .ldatam => true
  | .ldatah => true
  | .ldatbl => true
  | .ldatbm => true
  | .ldatbh => true
  | .ldax => true
  | .ldaxi => true
  | .ldh _ => true
  | .ldhl x => x.extractLsb' 0 2 == 0#2
  | .ldia _ => true
  | .ldl _ => true
  | .nop => true
  | .ora _ => true
  | .oram => true
  | .orm _ => true
  | .out _ _ => true
  | .outa _ => true
  | .out12 => true
  | .ret => true
  | .rlca => true
  | .rrca => true
  | .rti => true
  | .sbcam => true
  | .sbr _ => true
  | .scall _ => true
  | .sem _ => true
  | .sep n _ => n != 0#4
  | .sepl => true
  | .set _ _ => true
  | .sgf => p.chip.hasGf
  | .slbr _ => p.chip.hasSlbr && p.slbrPrefix.isSome
  | .sta x => !isWindowAddr x
  | .stadpl => true
  | .stadpm => true
  | .stadph => true
  | .stam => true
  | .stamd => true
  | .stami => true
  | .stasp => true
  | .statal => true
  | .statam => true
  | .statah => true
  | .statbl => true
  | .statbm => true
  | .statbh => true
  | .std _ _ => true
  | .stdmi _ => true
  | .suba _ => true
  | .subm _ => true
  | .tfa _ => true
  | .tfcfc => true
  | .tfm _ => true
  | .tfp _ _ => true
  | .tfpl => true
  | .tgs => p.chip.hasGf
  | .tha => true
  | .tla => true
  | .tt _ _ => true
  | .ttcfs => true
  | .ttp _ _ => true
  | .tzs => true
  | .xoram => true

end Sys2Proof
end

