-- ==== Sys2Proof/Decode.lean ====
section
/-! DEFINITION. The decoder, total on any bytes, and after it the encoder, both written from the formats and maps of 30_encoding.md
(R90 to R110, R114). The first byte is the one at the lowest program address (20_memory.md R69). -/

namespace Sys2Proof

/-- Why a byte sequence is a reserved encoding (30_encoding.md R108, R109; 93_implementation_defined.md U1 to U11). -/
inductive ReservedWhy where
  /-- First byte 75h or 7Ah that is not EXAE_OPCODE (U1, U2). -/
  | firstByte
  /-- On the 8K chip 54h, or 55h or 57h where SLBR_PREFIX does not assign it (U10). -/
  | chip8K
  /-- An SLBR first byte followed by a byte that is not C0h..CFh (U11). -/
  | slbrSecondByte
  /-- 63h followed by 40h..7Fh (U3). -/
  | latchGroup
  /-- 6Ch followed by 00h..3Fh (U4). -/
  | bitGroup
  /-- 6Eh followed by 0xh, 2xh, 8xh or Axh (U5). -/
  | immediateGroup
  /-- 6Fh followed by 20h..3Fh, 50h..BFh or D0h..FFh (U6). -/
  | portGroup
  /-- 4Ch or 4Eh followed by a byte with bit 1 or bit 0 set (U7). -/
  | unalignedPair
  /-- SEP with p = 0 (U9). -/
  | sepPortZero
deriving DecidableEq, Repr

/-- What the decoder says of the bytes it is given. -/
inductive Decoded where
  /-- An instruction, and the bytes after it. -/
  | instr (i : Instr) (rest : List Byte)
  /-- The bytes so far are the beginning of a longer instruction (30_encoding.md R90). -/
  | needMore
  /-- A reserved encoding, and the bytes that show it. -/
  | reserved (why : ReservedWhy) (bytes : List Byte)
deriving DecidableEq, Repr

/-- The high nibble of a byte. -/
def hi4 (b : Byte) : Nibble := b.extractLsb' 4 4

/-- The low nibble of a byte. -/
def lo4 (b : Byte) : Nibble := b.extractLsb' 0 4

/-- Go on with the next byte of the instruction, if it is there. -/
def withByte (rest : List Byte) (k : Byte → List Byte → Decoded) : Decoded :=
  match rest with
  | [] => .needMore
  | b :: rest' => k b rest'

/-- `a.extractLsb' 12 1` of the SLBR whose first byte is `b`, on the 8K chip (30_encoding.md R103). -/
def slbrBank (p : Params) (b : Byte) : Option (BitVec 1) :=
  match p.chip.hasSlbr, p.slbrPrefix with
  | true, some (c0, c1) => if b = c0 then some 0#1 else if b = c1 then some 1#1 else none
  | _, _ => none

/-- Format F3 after its first byte: `1100 aaaa aaaa aaaa` (30_encoding.md R103). A second byte other than C0h..CFh is reserved and no
third byte is read (log entry 17). -/
def decodeSlbr (bank : BitVec 1) (b0 : Byte) (rest : List Byte) : Decoded :=
  withByte rest fun b1 rest1 =>
    if hi4 b1 = 0xC#4 then
      withByte rest1 fun b2 rest2 => .instr (.slbr (bank ++ lo4 b1 ++ b2 : BitVec 13)) rest2
    else .reserved .slbrSecondByte [b0, b1]

/-- 75h and 7Ah: EXAE where EXAE_OPCODE is that byte, else reserved, on every chip (30_encoding.md R108, R114). -/
def decodeExae (p : Params) (b0 : Byte) (rest : List Byte) : Decoded :=
  if p.exaeOpcode = some b0 then .instr .exae rest else .reserved .firstByte [b0]

/-- 54h: TGS on the 2K and 4K chips, reserved on the 8K chip whatever SLBR_PREFIX is (30_encoding.md R109, decision D26). -/
def decodeTgs (p : Params) (b0 : Byte) (rest : List Byte) : Decoded :=
  if p.chip.hasGf then .instr .tgs rest else .reserved .chip8K [b0]

/-- 55h and 57h: SGF and CGF (here i) on the 2K and 4K chips; on the 8K chip the first byte of SLBR if SLBR_PREFIX assigns it, else
reserved (30_encoding.md R103, R109). -/
def decodeGfOrSlbr (p : Params) (i : Instr) (b0 : Byte) (rest : List Byte) : Decoded :=
  if p.chip.hasGf then .instr i rest
  else
    match slbrBank p b0 with
    | some bank => decodeSlbr bank b0 rest
    | none => .reserved .chip8K [b0]

/-- "the address x, of which the lower two bits must be zero" (LDHL, EXHL: 20_memory.md R71). -/
def pairAligned (x : DataAddr) : Bool := x.extractLsb' 0 2 == 0#2

/-- LDHL and EXHL, format F2X4 (30_encoding.md R96). -/
def decodePair (mk : DataAddr → Instr) (b0 : Byte) (rest : List Byte) : Decoded :=
  withByte rest fun x rest' =>
    if pairAligned x then .instr (mk x) rest' else .reserved .unalignedPair [b0, x]

/-- After 69h: STA, or the store to a special register (30_encoding.md R104, R107). -/
def decodeStore (x : DataAddr) : Instr :=
  match x with
  | 0xF4#8 => .statal
  | 0xF5#8 => .statam
  | 0xF6#8 => .statah
  | 0xF8#8 => .statbl
  | 0xF9#8 => .statbm
  | 0xFA#8 => .statbh
  | 0xFC#8 => .stadpl
  | 0xFD#8 => .stadpm
  | 0xFE#8 => .stadph
  | 0xFF#8 => .stasp
  | x => .sta x

/-- After 6Ah: LDA, or the load from a special register (30_encoding.md R104, R107). -/
def decodeLoad (x : DataAddr) : Instr :=
  match x with
  | 0xF4#8 => .ldatal
  | 0xF5#8 => .ldatam
  | 0xF6#8 => .ldatah
  | 0xF8#8 => .ldatbl
  | 0xF9#8 => .ldatbm
  | 0xFA#8 => .ldatbh
  | 0xFC#8 => .ldadpl
  | 0xFD#8 => .ldadpm
  | 0xFE#8 => .ldadph
  | 0xFF#8 => .ldasp
  | x => .lda x

/-- After 63h, format F2R: `ttrr rrrr` (30_encoding.md R101). -/
def decodeLatch (b0 b1 : Byte) (rest : List Byte) : Decoded :=
  let r := b1.extractLsb' 0 6
  match b1.extractLsb' 6 2 with
  | 0b00#2 => .instr (.dicil r) rest
  | 0b10#2 => .instr (.cil r) rest
  | 0b11#2 => .instr (.eicil r) rest
  | _ => .reserved .latchGroup [b0, b1]

/-- After 6Ch, format F2B: `ttbb yyyy` (30_encoding.md R99). -/
def decodeBit (b0 b1 : Byte) (rest : List Byte) : Decoded :=
  let b := b1.extractLsb' 4 2
  let y := lo4 b1
  match b1.extractLsb' 6 2 with
  | 0b01#2 => .instr (.set y b) rest
  | 0b10#2 => .instr (.tt y b) rest
  | 0b11#2 => .instr (.clr y b) rest
  | _ => .reserved .bitGroup [b0, b1]

/-- After 6Dh, format F2B: `ttbb pppp` (30_encoding.md R99, R107). -/
def decodePortBit (b0 b1 : Byte) (rest : List Byte) : Decoded :=
  let b := b1.extractLsb' 4 2
  let n := lo4 b1
  match b1.extractLsb' 6 2 with
  | 0b00#2 => .instr (.tfp n b) rest
  | 0b01#2 => if n = 0#4 then .reserved .sepPortZero [b0, b1] else .instr (.sep n b) rest
  | 0b10#2 => .instr (.ttp n b) rest
  | _ => .instr (.clp n b) rest

/-- After 6Eh, format F2S: `ssss kkkk` (30_encoding.md R98). -/
def decodeImmediate (b0 b1 : Byte) (rest : List Byte) : Decoded :=
  let k := lo4 b1
  match hi4 b1 with
  | 0x1#4 => .instr (.addl k) rest
  | 0x3#4 => .instr (.cmpl k) rest
  | 0x4#4 => .instr (.ora k) rest
  | 0x5#4 => .instr (.adda k) rest
  | 0x6#4 => .instr (.anda k) rest
  | 0x7#4 => .instr (.suba k) rest
  | 0x9#4 => .instr (.addah k) rest
  | 0xB#4 => .instr (.cmph k) rest
  | 0xC#4 => .instr (.orm k) rest
  | 0xD#4 => .instr (.addm k) rest
  | 0xE#4 => .instr (.andm k) rest
  | 0xF#4 => .instr (.subm k) rest
  | _ => .reserved .immediateGroup [b0, b1]

/-- After 6Fh, format F2P: `000p pppp`, `0100 pppp`, `1100 pppp` (30_encoding.md R100). -/
def decodePort (b0 b1 : Byte) (rest : List Byte) : Decoded :=
  match b1.extractLsb' 5 3 with
  | 0b000#3 => .instr (.outa (b1.extractLsb' 0 5)) rest
  | _ =>
    match hi4 b1 with
    | 0x4#4 => .instr (.ina (lo4 b1)) rest
    | 0xC#4 => .instr (.inm (lo4 b1)) rest
    | _ => .reserved .portGroup [b0, b1]

/-- First bytes 40h..4Fh (30_encoding.md R106). -/
def decodeRow4 (b0 : Byte) (rest : List Byte) : Decoded :=
  match lo4 b0 with
  | 0x8#4 => withByte rest fun b1 rest' => .instr (.std (hi4 b1) (lo4 b1)) rest'
  | 0x9#4 => withByte rest fun b1 rest' => .instr (.add (hi4 b1) (lo4 b1)) rest'
  | 0xA#4 => withByte rest fun b1 rest' => .instr (.out (hi4 b1) (lo4 b1)) rest'
  | 0xB#4 => withByte rest fun b1 rest' => .instr (.cmp (hi4 b1) (lo4 b1)) rest'
  | 0xC#4 => decodePair .exhl b0 rest
  | 0xD#4 => .instr .rti rest
  | 0xE#4 => decodePair .ldhl b0 rest
  | 0xF#4 => .instr .ret rest
  | _ => withByte rest fun b1 rest' => .instr (.lcall (b0.extractLsb' 0 3 ++ b1 : BitVec 11)) rest'

/-- First bytes 50h..5Fh (30_encoding.md R106). -/
def decodeRow5 (p : Params) (b0 : Byte) (rest : List Byte) : Decoded :=
  match lo4 b0 with
  | 0x0#4 => .instr .rlca rest
  | 0x1#4 => .instr .rrca rest
  | 0x2#4 => .instr .ttcfs rest
  | 0x3#4 => .instr .tfcfc rest
  | 0x4#4 => decodeTgs p b0 rest
  | 0x5#4 => decodeGfOrSlbr p .sgf b0 rest
  | 0x6#4 => .instr .nop rest
  | 0x7#4 => decodeGfOrSlbr p .cgf b0 rest
  | 0x8#4 => .instr .exam rest
  | 0x9#4 => .instr .stam rest
  | 0xA#4 => .instr .ldam rest
  | 0xB#4 => .instr .tzs rest
  | 0xC#4 => .instr .deca rest
  | 0xD#4 => .instr .decm rest
  | 0xE#4 => .instr .inca rest
  | _ => .instr .incm rest

/-- First bytes 60h..6Fh (30_encoding.md R106). -/
def decodeRow6 (b0 : Byte) (rest : List Byte) : Decoded :=
  match lo4 b0 with
  | 0x0#4 => .instr .clpl rest
  | 0x1#4 => .instr .tfpl rest
  | 0x2#4 => .instr .sepl rest
  | 0x3#4 => withByte rest fun b1 rest' => decodeLatch b0 b1 rest'
  | 0x4#4 => .instr .exal rest
  | 0x5#4 => .instr .ldax rest
  | 0x6#4 => .instr .exah rest
  | 0x7#4 => .instr .ldaxi rest
  | 0x8#4 => withByte rest fun x rest' => .instr (.exa x) rest'
  | 0x9#4 => withByte rest fun x rest' => .instr (decodeStore x) rest'
  | 0xA#4 => withByte rest fun x rest' => .instr (decodeLoad x) rest'
  | 0xB#4 => withByte rest fun x rest' => .instr (.cmpa x) rest'
  | 0xC#4 => withByte rest fun b1 rest' => decodeBit b0 b1 rest'
  | 0xD#4 => withByte rest fun b1 rest' => decodePortBit b0 b1 rest'
  | 0xE#4 => withByte rest fun b1 rest' => decodeImmediate b0 b1 rest'
  | _ => withByte rest fun b1 rest' => decodePort b0 b1 rest'

/-- First bytes 70h..7Fh (30_encoding.md R106; 75h and 7Ah: R114, log entry 4). -/
def decodeRow7 (p : Params) (b0 : Byte) (rest : List Byte) : Decoded :=
  match lo4 b0 with
  | 0x0#4 => .instr .adcam rest
  | 0x1#4 => .instr .addam rest
  | 0x2#4 => .instr .sbcam rest
  | 0x3#4 => .instr .cmpm rest
  | 0x4#4 => .instr .tla rest
  | 0x5#4 => decodeExae p b0 rest
  | 0x6#4 => .instr .tha rest
  | 0x7#4 => .instr .out12 rest
  | 0x8#4 => .instr .oram rest
  | 0x9#4 => .instr .xoram rest
  | 0xA#4 => decodeExae p b0 rest
  | 0xB#4 => .instr .andam rest
  | 0xC#4 => .instr .decl rest
  | 0xD#4 => .instr .stamd rest
  | 0xE#4 => .instr .incl rest
  | _ => .instr .stami rest

/-- First bytes F0h..FFh, format F1B: `1111 ttbb` (30_encoding.md R94). -/
def decodeRowF (b0 : Byte) (rest : List Byte) : Decoded :=
  let b := b0.extractLsb' 0 2
  match b0.extractLsb' 2 2 with
  | 0b00#2 => .instr (.clm b) rest
  | 0b01#2 => .instr (.sem b) rest
  | 0b10#2 => .instr (.tfa b) rest
  | _ => .instr (.tfm b) rest

/-- An instruction whose first byte is `b0` (30_encoding.md R106). -/
def decodeFirst (p : Params) (b0 : Byte) (rest : List Byte) : Decoded :=
  match hi4 b0 with
  | 0x4#4 => decodeRow4 b0 rest
  | 0x5#4 => decodeRow5 p b0 rest
  | 0x6#4 => decodeRow6 b0 rest
  | 0x7#4 => decodeRow7 p b0 rest
  | 0x8#4 => .instr (.ldl (lo4 b0)) rest
  | 0x9#4 => .instr (.ldh (lo4 b0)) rest
  | 0xA#4 => .instr (.stdmi (lo4 b0)) rest
  | 0xB#4 => .instr (.cmpia (lo4 b0)) rest
  | 0xC#4 => withByte rest fun b1 rest' => .instr (.lbr (lo4 b0 ++ b1 : BitVec 12)) rest'
  | 0xD#4 => .instr (.ldia (lo4 b0)) rest
  | 0xE#4 => .instr (.scall (lo4 b0)) rest
  | 0xF#4 => decodeRowF b0 rest
  | _ => .instr (.sbr (b0.extractLsb' 0 6)) rest

/-- The instruction at the beginning of a byte sequence. -/
def decode (p : Params) : List Byte → Decoded
  | [] => .needMore
  | b0 :: rest => decodeFirst p b0 rest

/-- The first byte of SLBR for the given a[12] (30_encoding.md R103). -/
def slbrFirst (p : Params) (bank : BitVec 1) : Byte :=
  match p.slbrPrefix with
  | some (c0, c1) => if bank = 0#1 then c0 else c1
  | none => if bank = 0#1 then 0x57#8 else 0x55#8

/-- The bytes of an instruction, the first at the lowest address (30_encoding.md R92 to R104). Meant for well-formed instructions: an
EXAE or SLBR without an encoding gets the default bytes. -/
def encode (p : Params) : Instr → List Byte
  | .adcam => [0x70#8]
  | .add k y => [0x49#8, (k ++ y : Byte)]
  | .adda k => [0x6E#8, (0x5#4 ++ k : Byte)]
  | .addam => [0x71#8]
  | .addah k => [0x6E#8, (0x9#4 ++ k : Byte)]
  | .addl k => [0x6E#8, (0x1#4 ++ k : Byte)]
  | .addm k => [0x6E#8, (0xD#4 ++ k : Byte)]
  | .anda k => [0x6E#8, (0x6#4 ++ k : Byte)]
  | .andam => [0x7B#8]
  | .andm k => [0x6E#8, (0xE#4 ++ k : Byte)]
  | .cgf => [0x57#8]
  | .cil r => [0x63#8, (0b10#2 ++ r : Byte)]
  | .clm b => [(0b111100#6 ++ b : Byte)]
  | .clp n b => [0x6D#8, (0b11#2 ++ b ++ n : Byte)]
  | .clpl => [0x60#8]
  | .clr y b => [0x6C#8, (0b11#2 ++ b ++ y : Byte)]
  | .cmp k y => [0x4B#8, (k ++ y : Byte)]
  | .cmpa x => [0x6B#8, x]
  | .cmpm => [0x73#8]
  | .cmph k => [0x6E#8, (0xB#4 ++ k : Byte)]
  | .cmpia k => [(0xB#4 ++ k : Byte)]
  | .cmpl k => [0x6E#8, (0x3#4 ++ k : Byte)]
  | .deca => [0x5C#8]
  | .decl => [0x7C#8]
  | .decm => [0x5D#8]
  | .dicil r => [0x63#8, (0b00#2 ++ r : Byte)]
  | .eicil r => [0x63#8, (0b11#2 ++ r : Byte)]
  | .exa x => [0x68#8, x]
  | .exae => [p.exaeOpcode.getD 0x75#8]
  | .exah => [0x66#8]
  | .exal => [0x64#8]
  | .exam => [0x58#8]
  | .exhl x => [0x4C#8, x]
  | .ina n => [0x6F#8, (0x4#4 ++ n : Byte)]
  | .inca => [0x5E#8]
  | .incl => [0x7E#8]
  | .incm => [0x5F#8]
  | .inm n => [0x6F#8, (0xC#4 ++ n : Byte)]
  | .lbr a => [(0xC#4 ++ a.extractLsb' 8 4 : Byte), a.extractLsb' 0 8]
  | .lcall a => [(0b01000#5 ++ a.extractLsb' 8 3 : Byte), a.extractLsb' 0 8]
  | .lda x => [0x6A#8, x]
  | .ldadpl => [0x6A#8, 0xFC#8]
  | .ldadpm => [0x6A#8, 0xFD#8]
  | .ldadph => [0x6A#8, 0xFE#8]
  | .ldam => [0x5A#8]
  | .ldasp => [0x6A#8, 0xFF#8]
  | .ldatal => [0x6A#8, 0xF4#8]
  | .ldatam => [0x6A#8, 0xF5#8]
  | .ldatah => [0x6A#8, 0xF6#8]
  | .ldatbl => [0x6A#8, 0xF8#8]
  | .ldatbm => [0x6A#8, 0xF9#8]
  | .ldatbh => [0x6A#8, 0xFA#8]
  | .ldax => [0x65#8]
  | .ldaxi => [0x67#8]
  | .ldh k => [(0x9#4 ++ k : Byte)]
  | .ldhl x => [0x4E#8, x]
  | .ldia k => [(0xD#4 ++ k : Byte)]
  | .ldl k => [(0x8#4 ++ k : Byte)]
  | .nop => [0x56#8]
  | .ora k => [0x6E#8, (0x4#4 ++ k : Byte)]
  | .oram => [0x78#8]
  | .orm k => [0x6E#8, (0xC#4 ++ k : Byte)]
  | .out k n => [0x4A#8, (k ++ n : Byte)]
  | .outa n => [0x6F#8, (0#3 ++ n : Byte)]
  | .out12 => [0x77#8]
  | .ret => [0x4F#8]
  | .rlca => [0x50#8]
  | .rrca => [0x51#8]
  | .rti => [0x4D#8]
  | .sbcam => [0x72#8]
  | .sbr a => [(0#2 ++ a : Byte)]
  | .scall n => [(0xE#4 ++ n : Byte)]
  | .sem b => [(0b111101#6 ++ b : Byte)]
  | .sep n b => [0x6D#8, (0b01#2 ++ b ++ n : Byte)]
  | .sepl => [0x62#8]
  | .set y b => [0x6C#8, (0b01#2 ++ b ++ y : Byte)]
  | .sgf => [0x55#8]
  | .slbr a => [slbrFirst p (a.extractLsb' 12 1), (0xC#4 ++ a.extractLsb' 8 4 : Byte), a.extractLsb' 0 8]
  | .sta x => [0x69#8, x]
  | .stadpl => [0x69#8, 0xFC#8]
  | .stadpm => [0x69#8, 0xFD#8]
  | .stadph => [0x69#8, 0xFE#8]
  | .stam => [0x59#8]
  | .stamd => [0x7D#8]
  | .stami => [0x7F#8]
  | .stasp => [0x69#8, 0xFF#8]
  | .statal => [0x69#8, 0xF4#8]
  | .statam => [0x69#8, 0xF5#8]
  | .statah => [0x69#8, 0xF6#8]
  | .statbl => [0x69#8, 0xF8#8]
  | .statbm => [0x69#8, 0xF9#8]
  | .statbh => [0x69#8, 0xFA#8]
  | .std k y => [0x48#8, (k ++ y : Byte)]
  | .stdmi k => [(0xA#4 ++ k : Byte)]
  | .suba k => [0x6E#8, (0x7#4 ++ k : Byte)]
  | .subm k => [0x6E#8, (0xF#4 ++ k : Byte)]
  | .tfa b => [(0b111110#6 ++ b : Byte)]
  | .tfcfc => [0x53#8]
  | .tfm b => [(0b111111#6 ++ b : Byte)]
  | .tfp n b => [0x6D#8, (0b00#2 ++ b ++ n : Byte)]
  | .tfpl => [0x61#8]
  | .tgs => [0x54#8]
  | .tha => [0x76#8]
  | .tla => [0x74#8]
  | .tt y b => [0x6C#8, (0b10#2 ++ b ++ y : Byte)]
  | .ttcfs => [0x52#8]
  | .ttp n b => [0x6D#8, (0b10#2 ++ b ++ n : Byte)]
  | .tzs => [0x5B#8]
  | .xoram => [0x79#8]

/-- Byte j (0 the first) of an n-byte instruction whose bits are numbered as spec/opcode_table.json numbers them: "8n-1 (leftmost, bit 7
of the first byte) down to 0 (rightmost, bit 0 of the last byte)" (30_encoding.md R91, log entry 15). Bytes past the n-th are 0. -/
def tableByte (nbits w j : Nat) : Byte :=
  if j < nbits / 8 then BitVec.ofNat 8 (w >>> (8 * (nbits / 8 - 1 - j))) else 0#8

/-- The three bytes that stand for a table word, the longest instruction being three bytes. -/
def tableBytes (nbits w : Nat) : List Byte :=
  [tableByte nbits w 0, tableByte nbits w 1, tableByte nbits w 2]

/-- On this chip the bytes begin with an instruction of exactly n bytes. -/
def runsOn (p : Params) (bytes : List Byte) (n : Nat) (c : Chip) : Bool :=
  match decode { p with chip := c } bytes with
  | .instr _ rest => rest.length + n == bytes.length
  | _ => false

/-- The parameters with a chip selected on which the table word is an instruction of its own length: the chip of `p` if it is one, else
the first that is (CGF, SGF, TGS and SLBR do not exist on every chip, 30_encoding.md R109; log entry 16). -/
def Params.forTableWord (p : Params) (nbits w : Nat) : Params :=
  let fits := runsOn p (tableBytes nbits w) (nbits / 8)
  { p with chip := ([p.chip, .rom4K, .rom8K, .rom2K].find? fits).getD p.chip }

/-- The instruction the decoder reads from a word of spec/opcode_table.json, under the default parameters (log entries 15 and 16). -/
def decodeTableWord (nbits w : Nat) : Option Instr :=
  match decode (Params.default.forTableWord nbits w) (tableBytes nbits w) with
  | .instr i _ => some i
  | _ => none

end Sys2Proof
end

