-- ==== Sys2Proof/Machine/Memory.lean ====
section
/-! DEFINITION. A memory as plain data: the list of its written cells, addresses strictly rising. RAM and program memory are such lists
(20_memory.md R60), and so is the return stack (its address is SP, R67). A cell that is not listed has no value: reading it is
`Fault.UnwrittenRead` (10_state.md R43, decision D33, log entry 2), so no value is ever removed by a write. -/

namespace Sys2Proof.Machine

/-- Cells by address. With bytes it is a list of `Host.Cell`. -/
abbrev Memory (α : Type) := List (Nat × α)

/-- What an unlisted address reads as: no value, whatever the address (10_state.md R42 and R43, log entry 2). -/
def Memory.unlisted {α : Type} (_a : Nat) : Option α := none

/-- The value of a cell. -/
def Memory.read {α : Type} : Memory α → Nat → Option α
  | [], a => Memory.unlisted a
  | (b, v) :: m, a => if a = b then some v else Memory.read m a

/-- Writing a cell, keeping the addresses strictly rising. -/
def Memory.write {α : Type} : Memory α → Nat → α → Memory α
  | [], a, v => [(a, v)]
  | (b, w) :: m, a, v =>
    if a < b then (a, v) :: (b, w) :: m
    else if a = b then (a, v) :: m
    else (b, w) :: Memory.write m a v

/-- The canonical form: addresses strictly rising. -/
def Memory.wf {α : Type} (m : Memory α) : Bool := decide ((m.map Prod.fst).Pairwise (· < ·))

/-- Every listed address is below a bound. -/
def Memory.below {α : Type} (m : Memory α) (bound : Nat) : Bool := m.all fun c => decide (c.1 < bound)

end Sys2Proof.Machine
end

