-- ==== Sys2Proof/Machine/State.lean ====
section
/-! DEFINITION. The state of the machine as plain data (10_state.md R20 to R45), the reasons a step can stop (60_exceptions.md R401),
and the state after reset (R42). -/

namespace Sys2Proof.Machine

/-- The flag image FLAG of a stack entry: CF, ZF, SF (10_state.md R31, decision D16). -/
structure Flags where
  c : Bool
  z : Bool
  s : Bool
deriving DecidableEq, Repr

/-- One entry of the return stack. A call writes `pc` and marks the flag part unwritten (10_state.md R31). -/
structure StackEntry where
  /-- The saved program counter. -/
  pc : CodeAddr
  /-- The saved flags; `none`: "mark `flags` unwritten". -/
  flags : Option Flags
deriving DecidableEq, Repr

/-- A port event, recorded "in program order" (20_memory.md R74, 00_scope.md R11). -/
inductive PortEvent where
  /-- PortRead(p) answered v. -/
  | read (p : PortNo) (v : Nibble)
  /-- PortWrite(p, v). -/
  | write (p : PortNo) (v : Nibble)
  /-- PortWrite2(p1, v1, p2, v2): one event. -/
  | write2 (p1 : PortNo) (v1 : Nibble) (p2 : PortNo) (v2 : Nibble)
deriving DecidableEq, Repr

/-- What the outside agents (TIMER_AGENT, the interrupt sources) do at one instruction boundary: "replace TA or TB by any 12-bit
value and set any IL_i" (60_exceptions.md R403, R413; log entry 12). -/
structure AgentMove where
  /-- The new value of TA, if it is replaced. -/
  ta : Option Triple
  /-- The new value of TB, if it is replaced. -/
  tb : Option Triple
  /-- The latches that become 1. -/
  setIL : Latches
deriving DecidableEq, Repr

/-- A piece of state that may be unwritten in this model (10_state.md R43; the registers always hold a value, log entry 1). -/
inductive Element where
  /-- The data-memory cell at an address. -/
  | ram (a : DataAddr)
  /-- The program-memory byte at an address: "a byte the image does not define has no value" (10_state.md R39). -/
  | rom (a : Nat)
  /-- The pc part of a stack entry. -/
  | stackPc (i : Nibble)
  /-- The flag part of a stack entry. -/
  | stackFlags (i : Nibble)
deriving DecidableEq, Repr

/-- The reasons a step stops in a fault (60_exceptions.md R401). None is an exception of the hardware (R400); each stands for a
behaviour the source does not give, so each is SAFE: the model stops where the chip may go on. -/
inductive Fault where
  /-- ReservedEncoding(bytes, PC). Raised by fetch when the bytes are no instruction of the chip, and by the meanings of instructions
  the chip does not have (decisions D11, D24, D25, D26). Safe. -/
  | reservedEncoding (bytes : List Byte) (pc : CodeAddr)
  /-- DataAddress(addr). Raised by `memRead` and `memWrite` (20_memory.md R62, decisions D4, D5). Safe. -/
  | dataAddress (a : DataAddr)
  /-- ProgramAddress(addr). Raised by `romRead` (instruction fetch, OUT12) and by `tableAddr` (LDAX, LDAXI) (20_memory.md R64, R65,
  decisions D10, D29). Safe. -/
  | programAddress (a : Nat)
  /-- PortAccess(p). Raised by `portRead`, `portWrite`, `portWrite2` (00_scope.md R11, decisions D18, D32). Safe. -/
  | portAccess (p : PortNo)
  /-- UnwrittenRead(name). Raised by `memRead`, `romRead`, `stackPc`, `stackFlags` for a cell that nothing has written (10_state.md R43,
  decision D33). Safe. -/
  | unwrittenRead (e : Element)
deriving DecidableEq, Repr

/-- The reasons a step is refused. -/
inductive Refusal where
  /-- An instruction of the table that has no meaning in this model. No arm of `exec` raises it: every instruction is modelled. Safe. -/
  | notModelled (mnemonic : String)
  /-- InterruptUnconfigured. Raised by `step` at an instruction boundary where INT_CONFIG is absent, EIF = 1 and some latch is 1
  (60_exceptions.md R401, decision D15, log entry 11). Safe. -/
  | interruptUnconfigured
deriving DecidableEq, Repr

/-- The whole state. -/
structure State where
  /-- The parameters of 00_scope.md R5: fixed for a run (10_state.md R44), written by no step (log entry 3). -/
  params : Params
  /-- Acc, the accumulator (R20). -/
  acc : Nibble
  /-- HR, the H register (R21). -/
  hr : Nibble
  /-- LR, the L register (R21). -/
  lr : Nibble
  /-- PC, the program counter (R23), in 14 bits (log entry 7). -/
  pc : CodeAddr
  /-- CF, the carry flag (R25). -/
  cf : Bool
  /-- ZF, the zero flag (R26). -/
  zf : Bool
  /-- SF, the status flag (R27). -/
  sf : Bool
  /-- GF, the general flag (R28; no instruction of the 8K chip reaches it, log entry 25). -/
  gf : Bool
  /-- SP, the stack pointer (R30). -/
  sp : Nibble
  /-- STACK[0..15], by index (R31). -/
  stack : Memory StackEntry
  /-- DP, the data pointer (R32). -/
  dp : Triple
  /-- TA, the timer/counter A register (R33). -/
  ta : Triple
  /-- TB, the timer/counter B register (R34). -/
  tb : Triple
  /-- EIF, the interrupt enable flip-flop (R35). -/
  eif : Bool
  /-- EIR, the interrupt enable register (R36). -/
  eir : Nibble
  /-- IL, the interrupt latches: bit i is IL_i (R37). -/
  il : Latches
  /-- RAM, the data memory (R38). -/
  ram : Memory Nibble
  /-- ROM, the program memory (R39). -/
  rom : Memory Byte
  /-- PORT_OUT[0..31], the output latches (R40). -/
  portOut : Vector Nibble 32
  /-- The model's own: the port events so far, the oldest first (20_memory.md R74, log entry 14). -/
  events : List PortEvent
  /-- The model's own: how many port reads there have been, the argument of the free value `Config.portInput` (log entry 13). -/
  portReads : Nat
  /-- The model's own: the outside agents' moves at the coming instruction boundaries (log entry 12). -/
  agent : List AgentMove
deriving DecidableEq, Repr

/-- What a step or an instruction answers. -/
abbrev Result := Host.Outcome State Fault Refusal

/-- The state after reset under the given parameters (10_state.md R42): PC = RESET_PC, EIF = 0, RAM and STACK unwritten. The spec gives
the other registers no value; 0 is DESIGN CHOICE (log entry 1). The program image is loaded from outside (R39, log entry 16). -/
def State.resetWith (p : Params) : State where
  params := p
  acc := 0#4
  hr := 0#4
  lr := 0#4
  pc := p.resetPc.setWidth 14
  cf := false
  zf := false
  sf := false
  gf := false
  sp := 0#4
  stack := []
  dp := 0#12
  ta := 0#12
  tb := 0#12
  eif := false
  eir := 0#4
  il := 0#6
  ram := []
  rom := []
  portOut := Vector.replicate 32 0#4
  events := []
  portReads := 0
  agent := []

/-- The state after reset (10_state.md R42) under the default parameters (log entries 3 to 6). -/
def State.reset : State := State.resetWith Params.default

end Sys2Proof.Machine
end

