-- ==== Sys2Proof/Machine/Ops.lean ====
section
/-! DEFINITION. The named operations over the state: one setter per field, the memory, program-memory and port primitives
(00_scope.md R9 to R11), the return stack (10_state.md R30, R31), interrupt entry (60_exceptions.md R407) and the return from it (R408),
the acceptance of an interrupt (R405, R406) and the outside agents' moves (R403, R413). Each fault carries what R401 says it reports. -/

namespace Sys2Proof.Machine

/-- Acc <- v. -/
def State.setAcc (s : State) (v : Nibble) : State := { s with acc := v }
/-- HR <- v. -/
def State.setHr (s : State) (v : Nibble) : State := { s with hr := v }
/-- LR <- v. -/
def State.setLr (s : State) (v : Nibble) : State := { s with lr := v }
/-- PC <- v. -/
def State.setPc (s : State) (v : CodeAddr) : State := { s with pc := v }
/-- CF <- v. -/
def State.setCf (s : State) (v : Bool) : State := { s with cf := v }
/-- ZF <- v. -/
def State.setZf (s : State) (v : Bool) : State := { s with zf := v }
/-- SF <- v. -/
def State.setSf (s : State) (v : Bool) : State := { s with sf := v }
/-- GF <- v. -/
def State.setGf (s : State) (v : Bool) : State := { s with gf := v }
/-- SP <- v. -/
def State.setSp (s : State) (v : Nibble) : State := { s with sp := v }
/-- DP <- v. -/
def State.setDp (s : State) (v : Triple) : State := { s with dp := v }
/-- TA <- v. -/
def State.setTa (s : State) (v : Triple) : State := { s with ta := v }
/-- TB <- v. -/
def State.setTb (s : State) (v : Triple) : State := { s with tb := v }
/-- EIF <- v. -/
def State.setEif (s : State) (v : Bool) : State := { s with eif := v }
/-- EIR <- v. -/
def State.setEir (s : State) (v : Nibble) : State := { s with eir := v }
/-- IL <- v. -/
def State.setIl (s : State) (v : Latches) : State := { s with il := v }
/-- The data memory becomes m. -/
def State.setRam (s : State) (m : Memory Nibble) : State := { s with ram := m }
/-- The program memory becomes m: no instruction does it (20_memory.md R79), only the load of the image (log entry 16). -/
def State.setRom (s : State) (m : Memory Byte) : State := { s with rom := m }
/-- The return stack becomes m. -/
def State.setStack (s : State) (m : Memory StackEntry) : State := { s with stack := m }
/-- The output latches become v. -/
def State.setPortOut (s : State) (v : Vector Nibble 32) : State := { s with portOut := v }
/-- The recorded port events become l. -/
def State.setEvents (s : State) (l : List PortEvent) : State := { s with events := l }
/-- The count of port reads becomes n. -/
def State.setPortReads (s : State) (n : Nat) : State := { s with portReads := n }
/-- The outside agents' coming moves become l. -/
def State.setAgent (s : State) (l : List AgentMove) : State := { s with agent := l }
/-- The parameters become p: no step does it (10_state.md R44), only the load of a program for a chip (log entry 16). -/
def State.setParams (s : State) (p : Params) : State := { s with params := p }

/-- `PC + n`: "integer addition on the 13-bit value", not wrapped (00_scope.md R14, log entry 7). -/
def State.next (s : State) (n : Nat) : CodeAddr := s.pc + BitVec.ofNat 14 n

/-- `PC <- next` for an instruction of n bytes. -/
def State.advance (s : State) (n : Nat) : State := s.setPc (s.next n)

/-- Carry on with the value of an access, or stop with its fault (00_scope.md R12). -/
def orFault {α : Type} (r : Except Fault α) (k : α → Result) : Result :=
  match r with
  | .ok a => k a
  | .error f => .fault f

/-- HL, the pair `HR . LR`, HR the high half (10_state.md R22, decision D6, log entry 20). -/
def State.hl (s : State) : DataAddr := s.hr ++ s.lr

/-- A valid data address: below RAM_SIZE, "Consequently addresses F0h..FFh are never valid" (20_memory.md R62, log entry 27). -/
def State.validData (s : State) (a : DataAddr) : Bool := decide (a.toNat < s.params.ramSize) && decide (a.toNat < 0xF0)

/-- MemRead(a, 1) (00_scope.md R9). -/
def State.memRead (s : State) (a : DataAddr) : Except Fault Nibble :=
  if s.validData a then
    match s.ram.read a.toNat with
    | some v => .ok v
    | none => .error (.unwrittenRead (.ram a))
  else .error (.dataAddress a)

/-- MemWrite(a, 1, v) (00_scope.md R9). -/
def State.memWrite (s : State) (a : DataAddr) (v : Nibble) : Except Fault State :=
  if s.validData a then .ok (s.setRam (s.ram.write a.toNat v)) else .error (.dataAddress a)

/-- RomRead(a) (00_scope.md R10, 10_state.md R39). -/
def State.romRead (s : State) (a : Nat) : Except Fault Byte :=
  if a < s.params.chip.romSize then
    match s.rom.read a with
    | some b => .ok b
    | none => .error (.unwrittenRead (.rom a))
  else .error (.programAddress a)

/-- TableAddr(DP) (20_memory.md R65, decision D20, log entry 29). -/
def State.tableAddr (s : State) : Except Fault Nat :=
  match s.params.chip with
  | .rom2K => if s.dp.toNat < 0x800 then .ok s.dp.toNat else .error (.programAddress s.dp.toNat)
  | .rom4K => .ok s.dp.toNat
  | .rom8K => .ok (0x1000 + s.dp.toNat)

/-- RomRead(TableAddr(DP)). -/
def State.tableRead (s : State) : Except Fault Byte :=
  match s.tableAddr with
  | .ok a => s.romRead a
  | .error f => .error f

/-- The address of the OUT12 table byte: `ROM_SIZE - 20h + idx`, idx the five bits CF . m (20_memory.md R65, decision D31). -/
def State.out12Addr (s : State) (m : Nibble) : Nat :=
  s.params.chip.romSize - 0x20 + (BitVec.ofBool s.cf ++ m).toNat

/-- Port p is in PORT_READABLE. -/
def State.readable (s : State) (p : PortNo) : Bool := s.params.readable.getLsbD p.toNat

/-- Port p is in PORT_WRITABLE. -/
def State.writable (s : State) (p : PortNo) : Bool := s.params.writable.getLsbD p.toNat

/-- The value the environment answers to the next port read: a free value (10_state.md R40, log entry 13). -/
def State.portInput (s : State) (p : PortNo) : Nibble := Config.portInput s.portReads p

/-- The state after a read of port p: one more read, one more event (20_memory.md R74). -/
def State.afterPortRead (s : State) (p : PortNo) : State :=
  (s.setPortReads (s.portReads + 1)).setEvents (s.events ++ [.read p (s.portInput p)])

/-- PortRead(p) (00_scope.md R11): the answer, and the state after it. -/
def State.portRead (s : State) (p : PortNo) : Except Fault (Nibble × State) :=
  if s.readable p then .ok (s.portInput p, s.afterPortRead p) else .error (.portAccess p)

/-- PORT_OUT[p]. -/
def State.latch (s : State) (p : PortNo) : Nibble := s.portOut[p.toNat]

/-- `PORT_OUT[p] <- v`. -/
def State.setLatch (s : State) (p : PortNo) (v : Nibble) : State := s.setPortOut (s.portOut.set p.toNat v)

/-- PortWrite(p, v): the latch, and one event (00_scope.md R11). -/
def State.portWrite (s : State) (p : PortNo) (v : Nibble) : Except Fault State :=
  if s.writable p then .ok ((s.setLatch p v).setEvents (s.events ++ [.write p v])) else .error (.portAccess p)

/-- PortWrite2(p1, v1, p2, v2): two latches in one event; the first port is checked first (00_scope.md R11, log entry 30). -/
def State.portWrite2 (s : State) (p1 : PortNo) (v1 : Nibble) (p2 : PortNo) (v2 : Nibble) : Except Fault State :=
  if s.writable p1 then
    if s.writable p2 then
      .ok (((s.setLatch p1 v1).setLatch p2 v2).setEvents (s.events ++ [.write2 p1 v1 p2 v2]))
    else .error (.portAccess p2)
  else .error (.portAccess p1)

/-- Push: STACK[SP] <- e, then SP <- (SP - 1) mod 16 (10_state.md R30). -/
def State.push (s : State) (e : StackEntry) : State :=
  (s.setStack (s.stack.write s.sp.toNat e)).setSp (s.sp - 1#4)

/-- STACK[i].pc (10_state.md R31). -/
def State.stackPc (s : State) (i : Nibble) : Except Fault CodeAddr :=
  match s.stack.read i.toNat with
  | some e => .ok e.pc
  | none => .error (.unwrittenRead (.stackPc i))

/-- STACK[i].flags (10_state.md R31). -/
def State.stackFlags (s : State) (i : Nibble) : Except Fault Flags :=
  match s.stack.read i.toNat with
  | some e =>
    match e.flags with
    | some f => .ok f
    | none => .error (.unwrittenRead (.stackFlags i))
  | none => .error (.unwrittenRead (.stackFlags i))

/-- The index a pop reads: SP + 1 modulo 16 (10_state.md R30). -/
def State.popIndex (s : State) : Nibble := s.sp + 1#4

/-- The call of a subroutine at `target` from an instruction of n bytes: push the return address, without flags, and go there
(42_lbr_to_ldl.md R240, 43_nop_to_sgf.md R272, decision D8). -/
def State.call (s : State) (n : Nat) (target : CodeAddr) : State :=
  (s.push ⟨s.next n, none⟩).setPc target

/-- The latch bit of interrupt source i. -/
def latchBit (i : Fin 6) : Latches := 1#6 <<< i.val

/-- Interrupt entry for a source (60_exceptions.md R407, decisions D15 and D16, log entry 22): PC and the flags go to STACK[SP], SP is
decremented, EIF and the source's latch become 0, PC becomes the source's vector. -/
def State.enterInterrupt (s : State) (src : IntSource) : State :=
  let pushed := s.push ⟨s.pc, some ⟨s.cf, s.zf, s.sf⟩⟩
  ((pushed.setEif false).setIl (s.il &&& ~~~(latchBit src.latch))).setPc (src.vector.setWidth 14)

/-- The return from an interrupt (60_exceptions.md R408, 43_nop_to_sgf.md R269): SP incremented, EIF set, the flags and PC taken from the
entry at the new SP, the flag part read first. -/
def State.returnFromInterrupt (s : State) : Except Fault State :=
  match s.stackFlags s.popIndex with
  | .error f => .error f
  | .ok fl =>
    match s.stackPc s.popIndex with
    | .error f => .error f
    | .ok pc =>
      .ok ((((((s.setSp s.popIndex).setEif true).setCf fl.c).setZf fl.z).setSf fl.s).setPc pc)

/-- What happens at an instruction boundary. -/
inductive Boundary where
  /-- No interrupt is accepted: the next instruction runs. -/
  | run
  /-- This source is accepted. -/
  | enter (src : IntSource)
  /-- INT_CONFIG is absent and an interrupt would have to be taken. -/
  | unconfigured
deriving DecidableEq, Repr

/-- en(i, EIR), from the table of the source. "EIR = 0 enables no source" (60_exceptions.md R405, decision D30). -/
def enabledBy (src : IntSource) (eir : Nibble) : Bool := eir != 0#4 && src.enables.getLsbD eir.toNat

/-- A source may be accepted: its latch is 1 and EIR enables it (60_exceptions.md R405). -/
def State.requests (s : State) (src : IntSource) : Bool := s.il.getLsbD src.latch.val && enabledBy src s.eir

/-- Acceptance (60_exceptions.md R405, R406, R410): with EIF = 0 or no latch set nothing happens; with INT_CONFIG absent the model refuses
(R401, log entry 11); else the first source in priority order whose latch is set and enabled is accepted. -/
def State.boundary (s : State) : Boundary :=
  if s.eif && s.il != 0#6 then
    match s.params.intConfig with
    | none => .unconfigured
    | some srcs =>
      match srcs.find? s.requests with
      | some src => .enter src
      | none => .run
  else .run

/-- One move of the outside agents (60_exceptions.md R403, R413). -/
def State.applyMove (s : State) (m : AgentMove) : State :=
  ((s.setTa (m.ta.getD s.ta)).setTb (m.tb.getD s.tb)).setIl (s.il ||| m.setIL)

/-- The outside agents' move at this instruction boundary; with no move left the agents are absent (log entry 12). -/
def State.atBoundary (s : State) : State :=
  match s.agent with
  | [] => s
  | m :: rest => (s.setAgent rest).applyMove m

end Sys2Proof.Machine
end

