-- ==== Sys2Proof/Machine/Operands.lean ====
section
/-! DEFINITION. The operand forms: where an operand's address comes from (20_memory.md R61, R66), the nibbles of the 12-bit registers
(10_state.md R32 to R34), the special registers behind the address byte of LDA and STA (R41), and the ways an instruction ends: a result
into a register or a cell with the flags that go with it. -/

namespace Sys2Proof.Machine

/-- The zero-page address `zext_8(y)` (20_memory.md R61). -/
def zeroPage (y : Nibble) : DataAddr := y.setWidth 8

/-- The port of a 4-bit port field (20_memory.md R66). -/
def portOf (p : Nibble) : PortNo := p.setWidth 5

/-- The port selected by LR: `4 + LR[3:2]` (CLPL, SEPL, TFPL). -/
def State.lrPort (s : State) : PortNo := 4#5 + (s.lr.extractLsb' 2 2).setWidth 5

/-- The bit selected by LR: `LR[1:0]`. -/
def State.lrBit (s : State) : BitNo := s.lr.extractLsb' 0 2

/-- The low nibble, bits 3..0. -/
def lowNibble (t : Triple) : Nibble := t.extractLsb' 0 4
/-- The middle nibble, bits 7..4. -/
def midNibble (t : Triple) : Nibble := t.extractLsb' 4 4
/-- The high nibble, bits 11..8. -/
def highNibble (t : Triple) : Nibble := t.extractLsb' 8 4
/-- Bits 3..0 replaced: "Writing one nibble of DP, TA or TB ... leaves the other nibbles as they were" (10_state.md R43). -/
def withLow (t : Triple) (v : Nibble) : Triple := highNibble t ++ midNibble t ++ v
/-- Bits 7..4 replaced. -/
def withMid (t : Triple) (v : Nibble) : Triple := highNibble t ++ v ++ lowNibble t
/-- Bits 11..8 replaced. -/
def withHigh (t : Triple) (v : Nibble) : Triple := v ++ midNibble t ++ lowNibble t

/-- The ten register parts behind the address byte of LDA and STA (10_state.md R41). -/
inductive Special where
  | taL | taM | taH | tbL | tbM | tbH | dpL | dpM | dpH | sp
deriving DecidableEq, Repr

/-- The register part an address byte names after 69h and 6Ah, if it names one (10_state.md R41). -/
def specialAt (x : DataAddr) : Option Special :=
  match x with
  | 0xF4#8 => some .taL
  | 0xF5#8 => some .taM
  | 0xF6#8 => some .taH
  | 0xF8#8 => some .tbL
  | 0xF9#8 => some .tbM
  | 0xFA#8 => some .tbH
  | 0xFC#8 => some .dpL
  | 0xFD#8 => some .dpM
  | 0xFE#8 => some .dpH
  | 0xFF#8 => some .sp
  | _ => none

/-- The value of a special-register part. -/
def State.special (s : State) : Special → Nibble
  | .taL => lowNibble s.ta
  | .taM => midNibble s.ta
  | .taH => highNibble s.ta
  | .tbL => lowNibble s.tb
  | .tbM => midNibble s.tb
  | .tbH => highNibble s.tb
  | .dpL => lowNibble s.dp
  | .dpM => midNibble s.dp
  | .dpH => highNibble s.dp
  | .sp => s.sp

/-- A special-register part written. -/
def State.setSpecial (s : State) (r : Special) (v : Nibble) : State :=
  match r with
  | .taL => s.setTa (withLow s.ta v)
  | .taM => s.setTa (withMid s.ta v)
  | .taH => s.setTa (withHigh s.ta v)
  | .tbL => s.setTb (withLow s.tb v)
  | .tbM => s.setTb (withMid s.tb v)
  | .tbH => s.setTb (withHigh s.tb v)
  | .dpL => s.setDp (withLow s.dp v)
  | .dpM => s.setDp (withMid s.dp v)
  | .dpH => s.setDp (withHigh s.dp v)
  | .sp => s.setSp v

/-- The end of an instruction of n bytes that leaves SF = f: SF <- f; PC <- next. -/
def finish (s : State) (n : Nat) (f : Bool) : Result := .next ((s.setSf f).advance n)

/-- A result into Acc: Acc <- v; ZF <- isz(v); SF <- f; PC <- next. -/
def resultToAcc (s : State) (n : Nat) (v : Nibble) (f : Bool) : Result := finish ((s.setAcc v).setZf (isz v)) n f

/-- A result into HR: HR <- v; ZF <- isz(v); SF <- f; PC <- next. -/
def resultToHr (s : State) (n : Nat) (v : Nibble) (f : Bool) : Result := finish ((s.setHr v).setZf (isz v)) n f

/-- A result into LR: LR <- v; ZF <- isz(v); SF <- f; PC <- next. -/
def resultToLr (s : State) (n : Nat) (v : Nibble) (f : Bool) : Result := finish ((s.setLr v).setZf (isz v)) n f

/-- A result into the data cell a: MemWrite(a, 1, v); ZF <- isz(v); SF <- f; PC <- next. -/
def resultToCell (s : State) (n : Nat) (a : DataAddr) (v : Nibble) (f : Bool) : Result :=
  orFault (s.memWrite a v) fun t => finish (t.setZf (isz v)) n f

/-- A plain store: MemWrite(a, 1, v); SF <- 1; PC <- next. -/
def storeCell (s : State) (n : Nat) (a : DataAddr) (v : Nibble) : Result :=
  orFault (s.memWrite a v) fun t => finish t n true

/-- The compare of two operands, first minus second: CF <- no-borrow; ZF <- equal; SF <- NOT ZF; PC <- next. -/
def compareOperands (s : State) (n : Nat) (first second : Nibble) : Result :=
  let d := sub4 first second false
  finish ((s.setCf d.2).setZf (isz d.1)) n (!isz d.1)

/-- The compare of an immediate with HR or LR: ZF <- equal; SF <- no-borrow; CF untouched; PC <- next. -/
def compareRegister (s : State) (n : Nat) (k reg : Nibble) : Result :=
  let d := sub4 k reg false
  finish (s.setZf (isz d.1)) n d.2

/-- The stop of an instruction that is no instruction of this chip, or whose operand its encoding does not admit: its bytes and PC
(60_exceptions.md R401, log entry 23). -/
def reservedHere (s : State) (i : Instr) : Result := .fault (.reservedEncoding (encode s.params i) s.pc)

end Sys2Proof.Machine
end

