-- ==== Sys2Proof/Machine/Arith.lean ====
section
/-! DEFINITION. The additions, subtractions, increments and decrements. SF is the inverse of the carry out of an addition and the no-borrow
of a subtraction; where the C row says "not changed", CF keeps its value (decision D1, log entry 19). -/

namespace Sys2Proof.Machine

/-- ADCAM (R201). -/
def execAdcam (s : State) : Result :=
  orFault (s.memRead s.hl) fun m =>
    let sum := add4 s.acc m s.cf
    resultToAcc (s.setCf sum.2) 1 sum.1 (!sum.2)

/-- ADD #k, y (R202). -/
def execAdd (k y : Nibble) (s : State) : Result :=
  orFault (s.memRead (zeroPage y)) fun m =>
    let sum := add4 m k false
    resultToCell s 2 (zeroPage y) sum.1 (!sum.2)

/-- ADDA #k (R203). -/
def execAdda (k : Nibble) (s : State) : Result :=
  let sum := add4 s.acc k false
  resultToAcc s 2 sum.1 (!sum.2)

/-- ADDAM (R204). -/
def execAddam (s : State) : Result :=
  orFault (s.memRead s.hl) fun m =>
    let sum := add4 s.acc m false
    resultToAcc s 1 sum.1 (!sum.2)

/-- ADDAH #k (R205). -/
def execAddah (k : Nibble) (s : State) : Result :=
  let sum := add4 s.hr k false
  resultToHr s 2 sum.1 (!sum.2)

/-- ADDL #k (R206). -/
def execAddl (k : Nibble) (s : State) : Result :=
  let sum := add4 s.lr k false
  resultToLr s 2 sum.1 (!sum.2)

/-- ADDM #k (R207). -/
def execAddm (k : Nibble) (s : State) : Result :=
  orFault (s.memRead s.hl) fun m =>
    let sum := add4 m k false
    resultToCell s 2 s.hl sum.1 (!sum.2)

/-- SBCAM (R270): memory minus Acc minus the borrow NOT CF. -/
def execSbcam (s : State) : Result :=
  orFault (s.memRead s.hl) fun m =>
    let d := sub4 m s.acc (!s.cf)
    resultToAcc (s.setCf d.2) 1 d.1 d.2

/-- SUBA #k (R295): k minus Acc. -/
def execSuba (k : Nibble) (s : State) : Result :=
  let d := sub4 k s.acc false
  resultToAcc s 2 d.1 d.2

/-- SUBM #k (R296): k minus memory. -/
def execSubm (k : Nibble) (s : State) : Result :=
  orFault (s.memRead s.hl) fun m =>
    let d := sub4 k m false
    resultToCell s 2 s.hl d.1 d.2

/-- INCA (R235). -/
def execInca (s : State) : Result :=
  let sum := add4 s.acc 1#4 false
  resultToAcc s 1 sum.1 (!sum.2)

/-- INCL (R236). -/
def execIncl (s : State) : Result :=
  let sum := add4 s.lr 1#4 false
  resultToLr s 1 sum.1 (!sum.2)

/-- INCM (R237). -/
def execIncm (s : State) : Result :=
  orFault (s.memRead s.hl) fun m =>
    let sum := add4 m 1#4 false
    resultToCell s 1 s.hl sum.1 (!sum.2)

/-- DECA (R223). -/
def execDeca (s : State) : Result :=
  let d := sub4 s.acc 1#4 false
  resultToAcc s 1 d.1 d.2

/-- DECL (R224). -/
def execDecl (s : State) : Result :=
  let d := sub4 s.lr 1#4 false
  resultToLr s 1 d.1 d.2

/-- DECM (R225). -/
def execDecm (s : State) : Result :=
  orFault (s.memRead s.hl) fun m =>
    let d := sub4 m 1#4 false
    resultToCell s 1 s.hl d.1 d.2

end Sys2Proof.Machine
end

