-- ==== Sys2Proof/Machine/Bits.lean ====
section
/-! DEFINITION. Bits of data cells and of Acc, and the flags moved into SF. -/

namespace Sys2Proof.Machine

/-- A read-modify-write of the data cell a that leaves SF = 1 and no other flag written. -/
def updateCell (s : State) (n : Nat) (a : DataAddr) (f : Nibble → Nibble) : Result :=
  orFault (s.memRead a) fun m => storeCell s n a (f m)

/-- CLM b (R213). -/
def execClm (b : BitNo) (s : State) : Result := updateCell s 1 s.hl fun m => clearBit m b

/-- SEM b (R273). -/
def execSem (b : BitNo) (s : State) : Result := updateCell s 1 s.hl fun m => setBit m b

/-- CLR y, b (R216). -/
def execClr (y : Nibble) (b : BitNo) (s : State) : Result := updateCell s 2 (zeroPage y) fun m => clearBit m b

/-- SET y, b (R276). -/
def execSet (y : Nibble) (b : BitNo) (s : State) : Result := updateCell s 2 (zeroPage y) fun m => setBit m b

/-- TFA b (R297). -/
def execTfa (b : BitNo) (s : State) : Result := finish s 1 (!testBit s.acc b)

/-- TFM b (R299). -/
def execTfm (b : BitNo) (s : State) : Result := orFault (s.memRead s.hl) fun m => finish s 1 (!testBit m b)

/-- TT y, b (R305). -/
def execTt (y : Nibble) (b : BitNo) (s : State) : Result :=
  orFault (s.memRead (zeroPage y)) fun m => finish s 2 (testBit m b)

/-- TFCFC (R298): SF from the old CF, inverted; then CF <- 0. -/
def execTfcfc (s : State) : Result := finish (s.setCf false) 1 (!s.cf)

/-- TTCFS (R306): SF from the old CF; then CF <- 1. -/
def execTtcfs (s : State) : Result := finish (s.setCf true) 1 s.cf

/-- TZS (R308). -/
def execTzs (s : State) : Result := finish s 1 s.zf

/-- CGF (R211): 2K and 4K chips only. -/
def execCgf (s : State) : Result := if s.params.chip.hasGf then finish (s.setGf false) 1 true else reservedHere s .cgf

/-- SGF (R277): 2K and 4K chips only. -/
def execSgf (s : State) : Result := if s.params.chip.hasGf then finish (s.setGf true) 1 true else reservedHere s .sgf

/-- TGS (R302): 2K and 4K chips only. -/
def execTgs (s : State) : Result := if s.params.chip.hasGf then finish s 1 s.gf else reservedHere s .tgs

end Sys2Proof.Machine
end

