-- ==== Sys2Proof/Machine/Compare.lean ====
section
/-! DEFINITION. The compares: only flags are written. -/

namespace Sys2Proof.Machine

/-- CMP #k, y (R217): k minus RAM[y]. -/
def execCmp (k y : Nibble) (s : State) : Result :=
  orFault (s.memRead (zeroPage y)) fun m => compareOperands s 2 k m

/-- CMPA x (R218): RAM[x] minus Acc. -/
def execCmpa (x : DataAddr) (s : State) : Result :=
  orFault (s.memRead x) fun m => compareOperands s 2 m s.acc

/-- CMPM (R219): RAM[HL] minus Acc. -/
def execCmpm (s : State) : Result :=
  orFault (s.memRead s.hl) fun m => compareOperands s 1 m s.acc

/-- CMPH #k (R220): k minus HR. -/
def execCmph (k : Nibble) (s : State) : Result := compareRegister s 2 k s.hr

/-- CMPIA #k (R221): k minus Acc. -/
def execCmpia (k : Nibble) (s : State) : Result := compareOperands s 1 k s.acc

/-- CMPL #k (R222): k minus LR. -/
def execCmpl (k : Nibble) (s : State) : Result := compareRegister s 2 k s.lr

end Sys2Proof.Machine
end

