-- ==== Sys2Proof/Machine/Control.lean ====
section
/-! DEFINITION. Branches (taken when SF = 1, and SF = 1 afterwards either way), calls, the return, and NOP. A target outside program
memory faults at the next fetch (decision D29). -/

namespace Sys2Proof.Machine

/-- A conditional branch: PC <- target when SF = 1, else PC <- next; then SF <- 1. -/
def branch (s : State) (n : Nat) (target : CodeAddr) : Result :=
  .next ((s.setPc (if s.sf then target else s.next n)).setSf true)

/-- SBR's target `next[12:6] . a[5:0]` (log entry 8). -/
def sbrTarget (next : CodeAddr) (a : BitVec 6) : CodeAddr := (0#1 ++ next.extractLsb' 6 7 ++ a : BitVec 14)

/-- LBR's target: `next[12] . a[11:0]`, "On the 2K and 4K chips there is one bank and PC <- a" (42_lbr_to_ldl.md R239, decision D9,
log entries 8 and 9). -/
def lbrTarget (c : Chip) (next : CodeAddr) (a : BitVec 12) : CodeAddr :=
  match c with
  | .rom8K => (0#1 ++ next.extractLsb' 12 1 ++ a : BitVec 14)
  | _ => a.setWidth 14

/-- SCALL's target: 0086h for n = 0, else 8n + 6. -/
def scallTarget (n : Nibble) : CodeAddr := if n = 0#4 then 0x86#14 else BitVec.ofNat 14 (8 * n.toNat + 6)

/-- SBR a (R271). -/
def execSbr (a : BitVec 6) (s : State) : Result := branch s 1 (sbrTarget (s.next 1) a)

/-- LBR a (R239). -/
def execLbr (a : BitVec 12) (s : State) : Result := branch s 2 (lbrTarget s.params.chip (s.next 2) a)

/-- SLBR a (R278): the 8K chip only. -/
def execSlbr (a : BitVec 13) (s : State) : Result :=
  if s.params.chip.hasSlbr then branch s 3 (a.setWidth 14) else reservedHere s (.slbr a)

/-- LCALL a (R240). -/
def execLcall (a : BitVec 11) (s : State) : Result := .next (s.call 2 (a.setWidth 14))

/-- SCALL a (R272), by its selector n. -/
def execScall (n : Nibble) (s : State) : Result := .next (s.call 1 (scallTarget n))

/-- RET (R266). -/
def execRet (s : State) : Result := orFault (s.stackPc s.popIndex) fun pc => .next ((s.setSp s.popIndex).setPc pc)

/-- NOP (R259). -/
def execNop (s : State) : Result := .next (s.advance 1)

end Sys2Proof.Machine
end

