-- ==== Sys2Proof/Machine/Exchange.lean ====
section
/-! DEFINITION. The exchanges. ZF is that of Acc after the exchange (decision D27), except EXAE and EXHL, which leave it. -/

namespace Sys2Proof.Machine

/-- The exchange of Acc with the data cell a. -/
def exchangeCell (s : State) (n : Nat) (a : DataAddr) : Result :=
  orFault (s.memRead a) fun m => orFault (s.memWrite a s.acc) fun t => resultToAcc t n m true

/-- EXA x (R228). -/
def execExa (x : DataAddr) (s : State) : Result := exchangeCell s 2 x

/-- EXAE (R229): with EIR; ZF is not written. -/
def execExae (s : State) : Result := finish ((s.setEir s.acc).setAcc s.eir) 1 true

/-- EXAH (R230). -/
def execExah (s : State) : Result := resultToAcc (s.setHr s.acc) 1 s.hr true

/-- EXAL (R231). -/
def execExal (s : State) : Result := resultToAcc (s.setLr s.acc) 1 s.lr true

/-- EXAM (R232). -/
def execExam (s : State) : Result := exchangeCell s 1 s.hl

/-- EXHL x (R233): L with x, H with x + 1. -/
def execExhl (x : DataAddr) (s : State) : Result :=
  if pairAligned x then
    orFault (s.memRead x) fun l => orFault (s.memRead (x + 1#8)) fun h =>
      orFault (s.memWrite x s.lr) fun t => orFault (t.memWrite (x + 1#8) s.hr) fun u =>
        finish ((u.setLr l).setHr h) 2 true
  else reservedHere s (.exhl x)

end Sys2Proof.Machine
end

