-- ==== Sys2Proof/Machine/Interrupt.lean ====
section
/-! DEFINITION. The interrupt-control instructions and the return from interrupt. They run whether or not INT_CONFIG is given: the model
refuses only at a boundary where an interrupt would have to be taken (60_exceptions.md R401, R402, log entry 11). -/

namespace Sys2Proof.Machine

/-- IL <- IL AND r; SF <- 1; PC <- next. -/
def clearLatches (s : State) (r : Latches) : Result := finish (s.setIl (s.il &&& r)) 2 true

/-- CIL r (R212). -/
def execCil (r : Latches) (s : State) : Result := clearLatches s r

/-- DICIL r (R226). -/
def execDicil (r : Latches) (s : State) : Result := clearLatches (s.setEif false) r

/-- EICIL r (R227). -/
def execEicil (r : Latches) (s : State) : Result := clearLatches (s.setEif true) r

/-- RTI (R269, R408). -/
def execRti (s : State) : Result := orFault s.returnFromInterrupt fun t => .next t

end Sys2Proof.Machine
end

