-- ==== Sys2Proof/Machine/Load.lean ====
section
/-! DEFINITION. The loads: from data memory, from special registers, from the table in program memory, of immediates, and the copies of
HR and LR. -/

namespace Sys2Proof.Machine

/-- The load of a special-register part: Acc <- v; ZF <- isz(v); SF <- 1 (R242 to R252). -/
def loadSpecial (s : State) (r : Special) : Result := resultToAcc s 2 (s.special r) true

/-- LDA x (R241): with one of the ten special-register address bytes, "execute the special-register form". -/
def execLda (x : DataAddr) (s : State) : Result :=
  match specialAt x with
  | some r => loadSpecial s r
  | none => orFault (s.memRead x) fun m => resultToAcc s 2 m true

/-- LDADPL (R242). -/
def execLdadpl (s : State) : Result := loadSpecial s .dpL

/-- LDADPM (R243). -/
def execLdadpm (s : State) : Result := loadSpecial s .dpM

/-- LDADPH (R244). -/
def execLdadph (s : State) : Result := loadSpecial s .dpH

/-- LDASP (R246). -/
def execLdasp (s : State) : Result := loadSpecial s .sp

/-- LDATAL (R247). -/
def execLdatal (s : State) : Result := loadSpecial s .taL

/-- LDATAM (R248). -/
def execLdatam (s : State) : Result := loadSpecial s .taM

/-- LDATAH (R249). -/
def execLdatah (s : State) : Result := loadSpecial s .taH

/-- LDATBL (R250). -/
def execLdatbl (s : State) : Result := loadSpecial s .tbL

/-- LDATBM (R251). -/
def execLdatbm (s : State) : Result := loadSpecial s .tbM

/-- LDATBH (R252). -/
def execLdatbh (s : State) : Result := loadSpecial s .tbH

/-- LDAM (R245). -/
def execLdam (s : State) : Result := orFault (s.memRead s.hl) fun m => resultToAcc s 1 m true

/-- LDAX (R253): the low nibble of the table byte. -/
def execLdax (s : State) : Result :=
  orFault s.tableRead fun b => resultToAcc s 1 (b.extractLsb' 0 4) true

/-- LDAXI (R254): the high nibble of the table byte, then DP + 1 modulo 4096. -/
def execLdaxi (s : State) : Result :=
  orFault s.tableRead fun b => resultToAcc (s.setDp (s.dp + 1#12)) 1 (b.extractLsb' 4 4) true

/-- LDH #k (R255). -/
def execLdh (k : Nibble) (s : State) : Result := finish (s.setHr k) 1 true

/-- LDHL x (R256): L from x, H from x + 1. -/
def execLdhl (x : DataAddr) (s : State) : Result :=
  if pairAligned x then
    orFault (s.memRead x) fun l => orFault (s.memRead (x + 1#8)) fun h => finish ((s.setLr l).setHr h) 2 true
  else reservedHere s (.ldhl x)

/-- LDIA #k (R257). -/
def execLdia (k : Nibble) (s : State) : Result := resultToAcc s 1 k true

/-- LDL #k (R258). -/
def execLdl (k : Nibble) (s : State) : Result := finish (s.setLr k) 1 true

/-- THA (R303). -/
def execTha (s : State) : Result := resultToAcc s 1 s.hr true

/-- TLA (R304). -/
def execTla (s : State) : Result := resultToAcc s 1 s.lr true

end Sys2Proof.Machine
end

