-- ==== Sys2Proof/Machine/Logic.lean ====
section
/-! DEFINITION. The bitwise operations (SF <- NOT new ZF) and the rotates through CF (SF <- NOT new CF). -/

namespace Sys2Proof.Machine

/-- ANDA #k (R208). -/
def execAnda (k : Nibble) (s : State) : Result :=
  let r := s.acc &&& k
  resultToAcc s 2 r (!isz r)

/-- ANDAM (R209). -/
def execAndam (s : State) : Result :=
  orFault (s.memRead s.hl) fun m =>
    let r := s.acc &&& m
    resultToAcc s 1 r (!isz r)

/-- ANDM #k (R210). -/
def execAndm (k : Nibble) (s : State) : Result :=
  orFault (s.memRead s.hl) fun m =>
    let r := m &&& k
    resultToCell s 2 s.hl r (!isz r)

/-- ORA #k (R260). -/
def execOra (k : Nibble) (s : State) : Result :=
  let r := s.acc ||| k
  resultToAcc s 2 r (!isz r)

/-- ORAM (R261). -/
def execOram (s : State) : Result :=
  orFault (s.memRead s.hl) fun m =>
    let r := s.acc ||| m
    resultToAcc s 1 r (!isz r)

/-- ORM #k (R262). -/
def execOrm (k : Nibble) (s : State) : Result :=
  orFault (s.memRead s.hl) fun m =>
    let r := m ||| k
    resultToCell s 2 s.hl r (!isz r)

/-- XORAM (R309). -/
def execXoram (s : State) : Result :=
  orFault (s.memRead s.hl) fun m =>
    let r := s.acc ^^^ m
    resultToAcc s 1 r (!isz r)

/-- RLCA (R267): Acc[3] into CF, the old CF into Acc[0]. -/
def execRlca (s : State) : Result :=
  let c := s.acc.getLsbD 3
  resultToAcc (s.setCf c) 1 (s.acc.extractLsb' 0 3 ++ BitVec.ofBool s.cf : BitVec 4) (!c)

/-- RRCA (R268): Acc[0] into CF, the old CF into Acc[3]. -/
def execRrca (s : State) : Result :=
  let c := s.acc.getLsbD 0
  resultToAcc (s.setCf c) 1 (BitVec.ofBool s.cf ++ s.acc.extractLsb' 1 3 : BitVec 4) (!c)

end Sys2Proof.Machine
end

