-- ==== Sys2Proof/Machine/Port.lean ====
section
/-! DEFINITION. The port instructions. Reads ask the environment; the bit instructions CLP, SEP, CLPL and SEPL read the output latch
(decision D18, log entry 21). -/

namespace Sys2Proof.Machine

/-- PortWrite(p, v); SF <- 1; PC <- next. -/
def writePort (s : State) (n : Nat) (p : PortNo) (v : Nibble) : Result :=
  orFault (s.portWrite p v) fun t => finish t n true

/-- INA p (R234). -/
def execIna (p : Nibble) (s : State) : Result :=
  orFault (s.portRead (portOf p)) fun r => resultToAcc r.2 2 r.1 (!isz r.1)

/-- INM p (R238): the port is read before the cell is written; ZF is not written (decision D2). -/
def execInm (p : Nibble) (s : State) : Result :=
  orFault (s.portRead (portOf p)) fun r =>
    orFault (r.2.memWrite r.2.hl r.1) fun t => finish t 2 (!isz r.1)

/-- OUT #k, p (R263). -/
def execOut (k p : Nibble) (s : State) : Result := writePort s 2 (portOf p) k

/-- OUTA p (R264): the only instruction with a 5-bit port number. -/
def execOuta (p : PortNo) (s : State) : Result := writePort s 2 p s.acc

/-- OUT12 (R265): the table byte's low nibble to port 1 and its high nibble to port 2, in one event. -/
def execOut12 (s : State) : Result :=
  orFault (s.memRead s.hl) fun m => orFault (s.romRead (s.out12Addr m)) fun b =>
    orFault (s.portWrite2 1#5 (b.extractLsb' 0 4) 2#5 (b.extractLsb' 4 4)) fun t => finish t 1 true

/-- CLP p, b (R214). -/
def execClp (p : Nibble) (b : BitNo) (s : State) : Result :=
  writePort s 2 (portOf p) (clearBit (s.latch (portOf p)) b)

/-- SEP p, b (R274): p = 1..15 (decision D25). -/
def execSep (p : Nibble) (b : BitNo) (s : State) : Result :=
  if p = 0#4 then reservedHere s (.sep p b)
  else writePort s 2 (portOf p) (setBit (s.latch (portOf p)) b)

/-- CLPL (R215). -/
def execClpl (s : State) : Result := writePort s 1 s.lrPort (clearBit (s.latch s.lrPort) s.lrBit)

/-- SEPL (R275). -/
def execSepl (s : State) : Result := writePort s 1 s.lrPort (setBit (s.latch s.lrPort) s.lrBit)

/-- TFP p, b (R300). -/
def execTfp (p : Nibble) (b : BitNo) (s : State) : Result :=
  orFault (s.portRead (portOf p)) fun r => finish r.2 2 (!testBit r.1 b)

/-- TTP p, b (R307). -/
def execTtp (p : Nibble) (b : BitNo) (s : State) : Result :=
  orFault (s.portRead (portOf p)) fun r => finish r.2 2 (testBit r.1 b)

/-- TFPL (R301). -/
def execTfpl (s : State) : Result :=
  orFault (s.portRead s.lrPort) fun r => finish r.2 1 (!testBit r.1 s.lrBit)

end Sys2Proof.Machine
end

