-- ==== Sys2Proof/Machine/Store.lean ====
section
/-! DEFINITION. The stores: into data memory, with or without a step of LR, and into special registers. -/

namespace Sys2Proof.Machine

/-- The store into a special-register part: the part <- Acc; SF <- 1 (R280 to R292). -/
def storeSpecial (s : State) (r : Special) : Result := finish (s.setSpecial r s.acc) 2 true

/-- A store at HL followed by a step of LR: the address is the one before the step, ZF is that of the value stored, HR is not touched
(20_memory.md R61). -/
def storeThenStep (s : State) (v stepped : Nibble) (f : Bool) : Result :=
  orFault (s.memWrite s.hl v) fun t => finish ((t.setLr stepped).setZf (isz v)) 1 f

/-- STA x (R279): with one of the ten special-register address bytes, "execute the special-register form". -/
def execSta (x : DataAddr) (s : State) : Result :=
  match specialAt x with
  | some r => storeSpecial s r
  | none => storeCell s 2 x s.acc

/-- STADPL (R280). -/
def execStadpl (s : State) : Result := storeSpecial s .dpL

/-- STADPM (R281). -/
def execStadpm (s : State) : Result := storeSpecial s .dpM

/-- STADPH (R282). -/
def execStadph (s : State) : Result := storeSpecial s .dpH

/-- STASP (R286). -/
def execStasp (s : State) : Result := storeSpecial s .sp

/-- STATAL (R287). -/
def execStatal (s : State) : Result := storeSpecial s .taL

/-- STATAM (R288). -/
def execStatam (s : State) : Result := storeSpecial s .taM

/-- STATAH (R289). -/
def execStatah (s : State) : Result := storeSpecial s .taH

/-- STATBL (R290). -/
def execStatbl (s : State) : Result := storeSpecial s .tbL

/-- STATBM (R291). -/
def execStatbm (s : State) : Result := storeSpecial s .tbM

/-- STATBH (R292). -/
def execStatbh (s : State) : Result := storeSpecial s .tbH

/-- STAM (R283). -/
def execStam (s : State) : Result := storeCell s 1 s.hl s.acc

/-- STAMD (R284). -/
def execStamd (s : State) : Result :=
  let d := sub4 s.lr 1#4 false
  storeThenStep s s.acc d.1 d.2

/-- STAMI (R285). -/
def execStami (s : State) : Result :=
  let sum := add4 s.lr 1#4 false
  storeThenStep s s.acc sum.1 (!sum.2)

/-- STD #k, y (R293). -/
def execStd (k y : Nibble) (s : State) : Result := storeCell s 2 (zeroPage y) k

/-- STDMI #k (R294). -/
def execStdmi (k : Nibble) (s : State) : Result :=
  let sum := add4 s.lr 1#4 false
  storeThenStep s k sum.1 (!sum.2)

end Sys2Proof.Machine
end

