-- ==== Sys2Proof/Machine/Fetch.lean ====
section
/-! DEFINITION. Fetching and decoding the instruction at PC, byte by byte (00_scope.md R16, 20_memory.md R64): a byte is read only when
the bytes before it do not settle the instruction, and each byte can fault on its own. -/

namespace Sys2Proof.Machine

/-- The instruction whose first bytes are `got`, reading at most `fuel` further bytes. No instruction has more than three bytes
(30_encoding.md R90). -/
def State.fetchFrom (s : State) : Nat → List Byte → Except Fault Instr
  | 0, got => .error (.reservedEncoding got s.pc)
  | fuel + 1, got =>
    match s.romRead (s.pc.toNat + got.length) with
    | .error f => .error f
    | .ok b =>
      match decode s.params (got ++ [b]) with
      | .instr i _ => .ok i
      | .reserved _ bytes => .error (.reservedEncoding bytes s.pc)
      | .needMore => s.fetchFrom fuel (got ++ [b])

/-- The instruction at PC. -/
def State.fetch (s : State) : Except Fault Instr := s.fetchFrom 3 []

/-- The image with bytes placed from an address on. -/
def placeBytes (m : Memory Byte) (a : Nat) : List Byte → Memory Byte
  | [] => m
  | b :: bs => placeBytes (m.write a b) (a + 1) bs

/-- The load of one table word at PC, for a chip that has the instruction (log entries 15 and 16). -/
def State.loadTableWord (s : State) (nbits w : Nat) : State :=
  (s.setParams (s.params.forTableWord nbits w)).setRom (placeBytes s.rom s.pc.toNat (tableBytes nbits w))

end Sys2Proof.Machine
end

