-- ==== Sys2Proof/Machine/Step.lean ====
section
/-! DEFINITION. The step (00_scope.md R16). -/

namespace Sys2Proof.Machine

/-- One step: the outside agents' move at this boundary, then interrupt entry if a source is accepted, else the next instruction. -/
def step (s : State) : Host.Outcome State Fault Refusal :=
  match s.atBoundary.boundary with
  | .unconfigured => .refused .interruptUnconfigured
  | .enter src => .next (s.atBoundary.enterInterrupt src)
  | .run => orFault s.atBoundary.fetch fun i => exec i s.atBoundary

/-- The state with one table word where the next instruction is fetched, on a chip that has it; the further bytes are zero (log
entries 15 and 16). -/
def State.withFetchWord (s : State) (nbits w : Nat) : State := s.loadTableWord nbits w

end Sys2Proof.Machine
end

