-- ==== Sys2Proof/Machine/Timing.lean ====
section
/-! DEFINITION. The instruction cycles of each instruction (70_reset_and_hazards.md R456): "timing information only: no rule of the spec
depends on it". The machine counts none (10_state.md R44, decision D23, log entry 24). -/

namespace Sys2Proof.Machine

/-- Instruction Cycles (R456). -/
def instrCycles : Instr → Nat
  | .adcam => 1
  | .add _ _ => 2
  | .adda _ => 2
  | .addam => 1
  | .addah _ => 2
  | .addl _ => 2
  | .addm _ => 2
  | .anda _ => 2
  | .andam => 1
  | .andm _ => 2
  | .cgf => 1
  | .cil _ => 2
  | .clm _ => 1
  | .clp _ _ => 2
  | .clpl => 2
  | .clr _ _ => 2
  | .cmp _ _ => 2
  | .cmpa _ => 2
  | .cmpm => 1
  | .cmph _ => 2
  | .cmpia _ => 1
  | .cmpl _ => 2
  | .deca => 1
  | .decl => 1
  | .decm => 1
  | .dicil _ => 2
  | .eicil _ => 2
  | .exa _ => 2
  | .exae => 1
  | .exah => 2
  | .exal => 2
  | .exam => 1
  | .exhl _ => 2
  | .ina _ => 2
  | .inca => 1
  | .incl => 1
  | .incm => 1
  | .inm _ => 2
  | .lbr _ => 2
  | .lcall _ => 2
  | .lda _ => 2
  | .ldadpl => 2
  | .ldadpm => 2
  | .ldadph => 2
  | .ldam => 1
  | .ldasp => 2
  | .ldatal => 2
  | .ldatam => 2
  | .ldatah => 2
  | .ldatbl => 2
  | .ldatbm => 2
  | .ldatbh => 2
  | .ldax => 2
  | .ldaxi => 2
  | .ldh _ => 1
  | .ldhl _ => 2
  | .ldia _ => 1
  | .ldl _ => 1
  | .nop => 1
  | .ora _ => 2
  | .oram => 1
  | .orm _ => 2
  | .out _ _ => 2
  | .outa _ => 2
  | .out12 => 2
  | .ret => 2
  | .rlca => 1
  | .rrca => 1
  | .rti => 2
  | .sbcam => 1
  | .sbr _ => 1
  | .scall _ => 2
  | .sem _ => 1
  | .sep _ _ => 2
  | .sepl => 2
  | .set _ _ => 2
  | .sgf => 1
  | .slbr _ => 3
  | .sta _ => 2
  | .stadpl => 2
  | .stadpm => 2
  | .stadph => 2
  | .stam => 1
  | .stamd => 1
  | .stami => 1
  | .stasp => 2
  | .statal => 2
  | .statam => 2
  | .statah => 2
  | .statbl => 2
  | .statbm => 2
  | .statbh => 2
  | .std _ _ => 2
  | .stdmi _ => 1
  | .suba _ => 2
  | .subm _ => 2
  | .tfa _ => 1
  | .tfcfc => 1
  | .tfm _ => 1
  | .tfp _ _ => 2
  | .tfpl => 2
  | .tgs => 1
  | .tha => 1
  | .tla => 1
  | .tt _ _ => 2
  | .ttcfs => 1
  | .ttp _ _ => 2
  | .tzs => 1
  | .xoram => 1

end Sys2Proof.Machine
end

