-- ==== Sys2Proof/Safety.lean ====
section
/-! DEFINITION. The terms the claims use: what a memory holds after one write, what an instruction needs of a data cell, the invariant of
the machine, a run without a stop, and the end of a run (70_reset_and_hazards.md R457). -/

namespace Sys2Proof.Machine

/-- `after` is `before` with the cell at `a` holding `v`, and every other cell reading as before. -/
def Memory.writtenAt {α : Type} (before after : Memory α) (a : Nat) (v : α) : Prop :=
  after.read a = some v ∧ ∀ b : Nat, b ≠ a → after.read b = before.read b

/-- The data address a is valid and its cell holds m: MemRead(a, 1) returns m. -/
def State.cellHolds (s : State) (a : DataAddr) (m : Nibble) : Prop :=
  s.validData a = true ∧ s.ram.read a.toNat = some m

/-- The bytes stand in program memory from PC on, inside program memory. -/
def State.bytesAtPc (s : State) (bs : List Byte) : Prop :=
  s.pc.toNat + bs.length ≤ s.params.chip.romSize ∧
    ∀ j : Nat, j < bs.length → s.rom.read (s.pc.toNat + j) = bs[j]?

/-- The event is a port read. -/
def PortEvent.isRead : PortEvent → Bool
  | .read _ _ => true
  | _ => false

/-- The invariant of the machine: the parameters obey 00_scope.md R5; the memories have their canonical form and list no address that
does not exist; PC and every saved PC are program addresses or the one just past the 13 bits (log entry 7); the read counter counts the
recorded reads. -/
def State.inv (s : State) : Bool :=
  s.params.wf && s.ram.wf && s.ram.below s.params.ramSize && s.stack.wf && s.stack.below 16 && s.rom.wf
    && s.rom.below s.params.chip.romSize && decide (s.pc.toNat ≤ 0x2000)
    && s.stack.all (fun e => decide (e.2.pc.toNat ≤ 0x2000))
    && decide (s.portReads = (s.events.filter PortEvent.isRead).length)

/-- The machine makes n steps without a fault or a refusal: a safe run. -/
def safeFor : Nat → State → Bool
  | 0, _ => true
  | n + 1, s =>
    match step s with
    | .next t => safeFor n t
    | _ => false

/-- The end of a run by a self-loop: "the state after one more step equals the state before it" (R457 (b)). -/
def State.ended (s : State) : Prop := step s = .next s

/-- The memory after the load of an image: pieces of bytes, each from an address on (10_state.md R39; used to state and test runs). -/
def imageOf (pieces : List (Nat × List Byte)) : Memory Byte := pieces.foldl (fun m c => placeBytes m c.1 c.2) []

/-- The instructions that write Acc, as 10_state.md R20 lists them ("LDA and its ten special-register forms"). -/
def writesAcc : Instr → Bool
  | .adcam | .adda _ | .addam | .anda _ | .andam | .deca | .exa _ | .exae | .exah | .exal | .exam | .ina _ | .inca
  | .lda _ | .ldatal | .ldatam | .ldatah | .ldatbl | .ldatbm | .ldatbh | .ldadpl | .ldadpm | .ldadph | .ldasp
  | .ldam | .ldax | .ldaxi | .ldia _ | .ora _ | .oram | .rlca | .rrca | .sbcam | .suba _ | .tha | .tla | .xoram => true
  | _ => false

/-- The instructions that write HR (10_state.md R21). -/
def writesHr : Instr → Bool
  | .addah _ | .exah | .exhl _ | .ldh _ | .ldhl _ => true
  | _ => false

/-- The instructions that write LR (10_state.md R21). -/
def writesLr : Instr → Bool
  | .addl _ | .decl | .exal | .exhl _ | .incl | .ldhl _ | .ldl _ | .stamd | .stami | .stdmi _ => true
  | _ => false

/-- The instructions that write CF (10_state.md R25). -/
def writesCf : Instr → Bool
  | .adcam | .sbcam | .cmp _ _ | .cmpa _ | .cmpm | .cmpia _ | .rlca | .rrca | .tfcfc | .ttcfs | .rti => true
  | _ => false

/-- The instructions with an entry in the Z column of 10_state.md R29. -/
def writesZf : Instr → Bool
  | .adcam | .add _ _ | .adda _ | .addam | .addah _ | .addl _ | .addm _ | .anda _ | .andam | .andm _ | .cmp _ _ | .cmpa _
  | .cmpm | .cmph _ | .cmpia _ | .cmpl _ | .deca | .decl | .decm | .exa _ | .exah | .exal | .exam | .ina _ | .inca | .incl
  | .incm | .lda _ | .ldadpl | .ldadpm | .ldadph | .ldam | .ldasp | .ldatal | .ldatam | .ldatah | .ldatbl | .ldatbm
  | .ldatbh | .ldax | .ldaxi | .ldia _ | .ora _ | .oram | .orm _ | .rlca | .rrca | .rti | .sbcam | .stamd | .stami
  | .stdmi _ | .suba _ | .subm _ | .tha | .tla | .xoram => true
  | _ => false

/-- The instructions that leave SF as it was: "NOP, LCALL, SCALL and RET" (10_state.md R27). -/
def keepsSf : Instr → Bool
  | .nop | .lcall _ | .scall _ | .ret => true
  | _ => false

/-- The instructions whose S row is "always 1", and the branches, which "always leave SF = 1" (10_state.md R27, R29). -/
def setsSf : Instr → Bool
  | .cgf | .cil _ | .clm _ | .clp _ _ | .clpl | .clr _ _ | .dicil _ | .eicil _ | .exa _ | .exae | .exah | .exal | .exam
  | .exhl _ | .lbr _ | .lda _ | .ldadpl | .ldadpm | .ldadph | .ldam | .ldasp | .ldatal | .ldatam | .ldatah | .ldatbl
  | .ldatbm | .ldatbh | .ldax | .ldaxi | .ldh _ | .ldhl _ | .ldia _ | .ldl _ | .out _ _ | .outa _ | .out12 | .sbr _
  | .sem _ | .sep _ _ | .sepl | .set _ _ | .sgf | .slbr _ | .sta _ | .stadpl | .stadpm | .stadph | .stam | .stasp
  | .statal | .statam | .statah | .statbl | .statbm | .statbh | .std _ _ | .tha | .tla => true
  | _ => false

/-- The instructions that store to data memory (20_memory.md R61, R73; STA with an address byte of the window stores to a register). -/
def writesRam : Instr → Bool
  | .add _ _ | .addm _ | .andm _ | .clm _ | .clr _ _ | .decm | .exa _ | .exam | .exhl _ | .incm | .inm _ | .orm _ | .sem _
  | .set _ _ | .sta _ | .stam | .stamd | .stami | .std _ _ | .stdmi _ | .subm _ => true
  | _ => false

/-- The instructions that write a port latch (20_memory.md R66, R73). -/
def writesPort : Instr → Bool
  | .clp _ _ | .clpl | .out _ _ | .outa _ | .out12 | .sep _ _ | .sepl => true
  | _ => false

/-- The instructions that read a port from the environment (10_state.md R40). -/
def readsPort : Instr → Bool
  | .ina _ | .inm _ | .tfp _ _ | .ttp _ _ | .tfpl => true
  | _ => false

/-- The instructions that write PC otherwise than by `PC <- next` (10_state.md R24). -/
def jumps : Instr → Bool
  | .sbr _ | .lbr _ | .slbr _ | .lcall _ | .scall _ | .ret | .rti => true
  | _ => false

end Sys2Proof.Machine
end

