-- ==== Sys2Proof/Certificates/Slice0/Obligations.lean ====
section
/-! DEFINITION. The statements for the provers. Each names the rules of spec/ it rests on; where a clause rests on a choice of the spec
or of this model the docstring says which and names the log entry. Every record update is the whole frame: a field it does not name is
unchanged. A store says through `Memory.writtenAt` that every other cell reads as before. -/

open Sys2Proof Sys2Proof.Machine

/-! ### Encoding -/

/-- Decoding the encoding of a well-formed instruction gives the instruction back, and leaves the bytes after it (30_encoding.md R90 to
R104). For EXAE and SLBR the encoding is that of the parameters (log entries 4 and 5). -/
def Obligations.DecodeEncodeRoundTrip : Prop :=
  ∀ (p : Params) (i : Instr) (rest : List Byte), p.wf = true → i.wf p = true →
    decode p (encode p i ++ rest) = .instr i rest

/-- What is decoded is well-formed and is what the bytes encode: each byte sequence has one reading, and no bit of it is dropped
(30_encoding.md R105, R108, R110). -/
def Obligations.DecodedBytesAreTheEncoding : Prop :=
  ∀ (p : Params) (bs : List Byte) (i : Instr) (rest : List Byte), decode p bs = .instr i rest →
    i.wf p = true ∧ encode p i ++ rest = bs

/-- "The length is decided by the first byte alone" (30_encoding.md R90). -/
def Obligations.FirstByteDecidesLength : Prop :=
  ∀ (p : Params) (b : Byte) (bs bs' rest rest' : List Byte) (i j : Instr),
    decode p (b :: bs) = .instr i rest → decode p (b :: bs') = .instr j rest' →
      i.length = j.length ∧ i.length + rest.length = bs.length + 1

/-- The one-byte formats with an operand, F1K, F1B and F1A (30_encoding.md R93, R94, R95), on every chip. -/
def Obligations.OneByteOperandFormats : Prop :=
  ∀ (p : Params) (rest : List Byte),
    (∀ k : Nibble,
      decode p ((0x8#4 ++ k : Byte) :: rest) = .instr (.ldl k) rest ∧
      decode p ((0x9#4 ++ k : Byte) :: rest) = .instr (.ldh k) rest ∧
      decode p ((0xA#4 ++ k : Byte) :: rest) = .instr (.stdmi k) rest ∧
      decode p ((0xB#4 ++ k : Byte) :: rest) = .instr (.cmpia k) rest ∧
      decode p ((0xD#4 ++ k : Byte) :: rest) = .instr (.ldia k) rest ∧
      decode p ((0xE#4 ++ k : Byte) :: rest) = .instr (.scall k) rest) ∧
    (∀ b : BitNo,
      decode p ((0b1111#4 ++ 0b00#2 ++ b : Byte) :: rest) = .instr (.clm b) rest ∧
      decode p ((0b1111#4 ++ 0b01#2 ++ b : Byte) :: rest) = .instr (.sem b) rest ∧
      decode p ((0b1111#4 ++ 0b10#2 ++ b : Byte) :: rest) = .instr (.tfa b) rest ∧
      decode p ((0b1111#4 ++ 0b11#2 ++ b : Byte) :: rest) = .instr (.tfm b) rest) ∧
    (∀ a : BitVec 6, decode p ((0b00#2 ++ a : Byte) :: rest) = .instr (.sbr a) rest) ∧
    (∀ (b : Byte) (bs : List Byte) (a : BitVec 6), decode p (b :: bs) = .instr (.sbr a) rest → b.extractLsb' 6 2 = 0b00#2)

/-- The formats F2P after 6Fh and F2R after 63h, every second byte of them (30_encoding.md R100, R101), on every chip. -/
def Obligations.PortAndLatchFormats : Prop :=
  ∀ (p : Params) (rest : List Byte),
    (∀ q : PortNo, decode p (0x6F#8 :: (0b000#3 ++ q : Byte) :: rest) = .instr (.outa q) rest) ∧
    (∀ q : Nibble,
      decode p (0x6F#8 :: (0b0100#4 ++ q : Byte) :: rest) = .instr (.ina q) rest ∧
      decode p (0x6F#8 :: (0b1100#4 ++ q : Byte) :: rest) = .instr (.inm q) rest) ∧
    (∀ b : Byte, (0x20 ≤ b.toNat ∧ b.toNat ≤ 0x3F) ∨ (0x50 ≤ b.toNat ∧ b.toNat ≤ 0xBF) ∨ (0xD0 ≤ b.toNat) →
      ∃ why, decode p (0x6F#8 :: b :: rest) = .reserved why [0x6F#8, b]) ∧
    (∀ r : Latches,
      decode p (0x63#8 :: (0b00#2 ++ r : Byte) :: rest) = .instr (.dicil r) rest ∧
      decode p (0x63#8 :: (0b10#2 ++ r : Byte) :: rest) = .instr (.cil r) rest ∧
      decode p (0x63#8 :: (0b11#2 ++ r : Byte) :: rest) = .instr (.eicil r) rest ∧
      ∃ why, decode p (0x63#8 :: (0b01#2 ++ r : Byte) :: rest) = .reserved why [0x63#8, (0b01#2 ++ r : Byte)])

/-- The formats with a program address, LCALL and LBR: the high address bits in the first byte, the low eight in the second, neither
scaled nor relative (30_encoding.md R102). That the address is used as it stands is in the last two clauses. -/
def Obligations.ProgramAddressFormats : Prop :=
  ∀ (p : Params) (rest : List Byte),
    (∀ a : BitVec 11,
      decode p ((0b01000#5 ++ a.extractLsb' 8 3 : Byte) :: a.extractLsb' 0 8 :: rest) = .instr (.lcall a) rest) ∧
    (∀ a : BitVec 12,
      decode p ((0b1100#4 ++ a.extractLsb' 8 4 : Byte) :: a.extractLsb' 0 8 :: rest) = .instr (.lbr a) rest) ∧
    (∀ (b : Byte) (bs : List Byte) (a : BitVec 11), decode p (b :: bs) = .instr (.lcall a) rest →
      0x40 ≤ b.toNat ∧ b.toNat ≤ 0x47) ∧
    (∀ (b : Byte) (bs : List Byte) (a : BitVec 12), decode p (b :: bs) = .instr (.lbr a) rest →
      0xC0 ≤ b.toNat ∧ b.toNat ≤ 0xCF) ∧
    (∀ (s t : State) (a : BitVec 11), exec (.lcall a) s = .next t → t.pc.toNat = a.toNat) ∧
    (∀ (s t : State) (a : BitVec 12), s.sf = true → exec (.lbr a) s = .next t → t.pc.toNat % 4096 = a.toNat)

/-- A few words, written out from the encodings of 30_encoding.md, under the default parameters of 00_scope.md R5. -/
def Obligations.SampleWordsDecode : Prop :=
  decode Params.default [0x49#8, 0x35#8] = .instr (.add 3#4 5#4) [] ∧
  decode Params.default [0x6C#8, 0xF2#8] = .instr (.clr 2#4 3#2) [] ∧
  decode Params.default [0x6A#8, 0xFC#8] = .instr .ldadpl [] ∧
  decode Params.default [0x42#8, 0x10#8] = .instr (.lcall 0x210#11) [] ∧
  decode Params.default [0x6E#8, 0xE3#8] = .instr (.andm 3#4) [] ∧
  decode Params.default [0x4D#8] = .instr .rti [] ∧
  decode { Params.default with chip := .rom8K } [0x55#8, 0xC2#8, 0x34#8] = .instr (.slbr 0x1234#13) []

/-! ### The step -/

/-- When no interrupt is accepted at the boundary and the bytes at PC decode to i, the step is exec of i on the state at the boundary,
that is after the outside agents' move there; with no move to come that state is s itself (00_scope.md R16; log entry 12). -/
def Obligations.StepRunsDecodedInstruction : Prop :=
  ∀ (s : State) (bs : List Byte) (i : Instr),
    (s.atBoundary.boundary = .run → s.atBoundary.bytesAtPc bs → decode s.params bs = .instr i [] →
      step s = exec i s.atBoundary) ∧
    (s.agent = [] → s.atBoundary = s)

/-- The step where nothing can be executed (60_exceptions.md R401, 10_state.md R24, R39, 30_encoding.md R108): the first byte outside program
memory or not defined by the image; after bytes that begin a longer instruction, the next byte so, be it the second or the third of SLBR;
and bytes that are no instruction. The faults are the spec's choices: UnwrittenRead for a byte the image does not define is decision D33
(log entry 2), ProgramAddress decision D10 (log entry 7), ReservedEncoding decision D11 (log entry 28). The state is the one at the
boundary, after the outside agents' move, which changes neither PC nor program memory (log entry 12). That a reserved reading reports the bytes read so far is
the rule; which bytes those are for a bad SLBR is log entry 17. -/
def Obligations.StepFetchFaults : Prop :=
  ∀ s : State, s.atBoundary.boundary = .run →
    (s.params.chip.romSize ≤ s.pc.toNat → step s = .fault (.programAddress s.pc.toNat)) ∧
    (s.pc.toNat < s.params.chip.romSize → s.rom.read s.pc.toNat = none →
      step s = .fault (.unwrittenRead (.rom s.pc.toNat))) ∧
    (∀ bs : List Byte, s.bytesAtPc bs → decode s.params bs = .needMore →
      (s.pc.toNat + bs.length = s.params.chip.romSize → step s = .fault (.programAddress (s.pc.toNat + bs.length))) ∧
      (s.pc.toNat + bs.length < s.params.chip.romSize → s.rom.read (s.pc.toNat + bs.length) = none →
        step s = .fault (.unwrittenRead (.rom (s.pc.toNat + bs.length))))) ∧
    (∀ (bs : List Byte) (why : ReservedWhy), s.bytesAtPc bs → decode s.params bs = .reserved why bs →
      step s = .fault (.reservedEncoding bs s.pc))

/-- The outside agents' move at a boundary: TA and TB replaced where the move says so, latches set, nothing else (60_exceptions.md R403,
R413; decision D19; the list of moves is DESIGN CHOICE, log entry 12). -/
def Obligations.OutsideAgentMove : Prop :=
  ∀ (s : State) (m : AgentMove) (rest : List AgentMove), s.agent = m :: rest →
    ∃ l : Latches, s.atBoundary = { s with ta := m.ta.getD s.ta, tb := m.tb.getD s.tb, il := l, agent := rest } ∧
      ∀ j : Nat, l.getLsbD j = (s.il.getLsbD j || m.setIL.getLsbD j)

/-- Interrupt entry (60_exceptions.md R405, R407, R410): with EIF = 1 the first source in priority order whose latch is set, be it by the
outside agents' move at this very boundary, and which EIR enables is entered: PC and the flags saved at STACK[SP], SP decremented, EIF and
that latch cleared, PC at its vector; b is the state after the agents' move (log entry 12). Entry is the spec's choice D15 and D16 (log
entry 22), the stack its decision D7 (log entry 18), the form of INT_CONFIG this model's (log entry 10). -/
def Obligations.InterruptEntry : Prop :=
  ∀ (s b : State) (before after : List IntSource) (src : IntSource), s.atBoundary = b → b.eif = true →
    b.params.intConfig = some (before ++ src :: after) →
    (∀ x ∈ before, ¬(b.il.getLsbD x.latch.val = true ∧ b.eir ≠ 0#4 ∧ x.enables.getLsbD b.eir.toNat = true)) →
    b.il.getLsbD src.latch.val = true → b.eir ≠ 0#4 → src.enables.getLsbD b.eir.toNat = true →
    ∃ (st : Memory StackEntry) (l : Latches),
      step s = .next { b with stack := st, sp := b.sp - 1#4, eif := false, il := l, pc := src.vector.setWidth 14 } ∧
      Memory.writtenAt b.stack st b.sp.toNat ⟨b.pc, some ⟨b.cf, b.zf, b.sf⟩⟩ ∧
      ∀ j : Nat, l.getLsbD j = (b.il.getLsbD j && decide (j ≠ src.latch.val))

/-- Masking (60_exceptions.md R405): with EIF = 0, with no latch set, with EIR = 0 (decision D30), or with no source both set and enabled,
no interrupt is taken: the boundary lets the next instruction run. With EIR = 0 this needs an INT_CONFIG (log entry 11).
Acceptance is the spec's decision D15 (log entry 22), the form of INT_CONFIG this model's (log entry 10). -/
def Obligations.InterruptMasking : Prop :=
  ∀ (s : State),
    (s.eif = false → s.boundary = .run) ∧
    (s.il = 0#6 → s.boundary = .run) ∧
    (∀ srcs, s.params.intConfig = some srcs → s.eir = 0#4 → s.boundary = .run) ∧
    (∀ srcs, s.params.intConfig = some srcs →
      (∀ x ∈ srcs, s.il.getLsbD x.latch.val = true → x.enables.getLsbD s.eir.toNat = false) → s.boundary = .run)

/-- The refusal (60_exceptions.md R401, decision D15, log entry 11): exactly where INT_CONFIG is absent, EIF = 1 and some latch is 1 at
the boundary, that is after the outside agents' move there (log entry 12). -/
def Obligations.InterruptRefusal : Prop :=
  ∀ s : State,
    (step s = .refused .interruptUnconfigured ↔ s.eif = true ∧ s.atBoundary.il ≠ 0#6 ∧ s.params.intConfig = none)

/-- A self-loop ends the run (70_reset_and_hazards.md R457 (b)): an SBR or LBR whose target is its own address, executed with SF = 1 where
no interrupt is taken, steps to the state it started from: the state at the boundary, which with no outside agents' move to come is the
state itself (log entry 12). That such a loop ends a run is the spec's decision D35. -/
def Obligations.SelfLoopEndsRun : Prop :=
  ∀ s : State, s.atBoundary.boundary = .run → s.sf = true →
    (∀ a : BitVec 6, s.bytesAtPc [(0b00#2 ++ a : Byte)] → s.pc.toNat % 64 = a.toNat → s.pc.toNat % 64 < 63 →
      step s = .next s.atBoundary ∧ (s.agent = [] → s.ended)) ∧
    (∀ a : BitVec 12, s.bytesAtPc [(0b1100#4 ++ a.extractLsb' 8 4 : Byte), a.extractLsb' 0 8] →
      s.pc.toNat % 4096 = a.toNat → s.pc.toNat % 4096 < 4094 →
      step s = .next s.atBoundary ∧ (s.agent = [] → s.ended))

/-! ### Addition and subtraction -/

/-- ADDA, ADDAH, ADDL, INCA, INCL, SUBA, DECA, DECL (R203, R205, R206, R235, R236, R295, R223, R224): the result modulo 16, ZF of it; SF = 1
unless an addition carries out or a subtraction borrows; SUBA is the immediate minus Acc. CF and the other half of HL are untouched. That
SF comes from this operation and not from CF is decision D1 (log entry 19). -/
def Obligations.ArithmeticOnRegister : Prop :=
  ∀ (s : State) (k : Nibble),
    exec (.adda k) s = .next { s with
      acc := s.acc + k, zf := decide (s.acc + k = 0#4), sf := decide (s.acc.toNat + k.toNat < 16), pc := s.pc + 2#14 } ∧
    exec (.addah k) s = .next { s with
      hr := s.hr + k, zf := decide (s.hr + k = 0#4), sf := decide (s.hr.toNat + k.toNat < 16), pc := s.pc + 2#14 } ∧
    exec (.addl k) s = .next { s with
      lr := s.lr + k, zf := decide (s.lr + k = 0#4), sf := decide (s.lr.toNat + k.toNat < 16), pc := s.pc + 2#14 } ∧
    exec .inca s = .next { s with
      acc := s.acc + 1#4, zf := decide (s.acc = 15#4), sf := decide (s.acc ≠ 15#4), pc := s.pc + 1#14 } ∧
    exec .incl s = .next { s with
      lr := s.lr + 1#4, zf := decide (s.lr = 15#4), sf := decide (s.lr ≠ 15#4), pc := s.pc + 1#14 } ∧
    exec (.suba k) s = .next { s with
      acc := k - s.acc, zf := decide (k = s.acc), sf := decide (s.acc.toNat ≤ k.toNat), pc := s.pc + 2#14 } ∧
    exec .deca s = .next { s with
      acc := s.acc - 1#4, zf := decide (s.acc = 1#4), sf := decide (s.acc ≠ 0#4), pc := s.pc + 1#14 } ∧
    exec .decl s = .next { s with
      lr := s.lr - 1#4, zf := decide (s.lr = 1#4), sf := decide (s.lr ≠ 0#4), pc := s.pc + 1#14 }

/-- ADCAM, ADDAM, SBCAM (R201, R204, R270) on the cell at HL: the exact sum or difference, narrowed; ADCAM and SBCAM write CF, and
SBCAM's borrow is NOT CF. ADDAM's SF is decision D1 (log entry 19). -/
def Obligations.MemoryIntoAccumulator : Prop :=
  ∀ (s : State) (m : Nibble), s.cellHolds s.hl m →
    exec .adcam s = .next { s with
      acc := s.acc + m + (BitVec.ofBool s.cf).setWidth 4,
      cf := decide (16 ≤ s.acc.toNat + m.toNat + s.cf.toNat),
      zf := decide (s.acc + m + (BitVec.ofBool s.cf).setWidth 4 = 0#4),
      sf := decide (s.acc.toNat + m.toNat + s.cf.toNat < 16), pc := s.pc + 1#14 } ∧
    exec .addam s = .next { s with
      acc := s.acc + m, zf := decide (s.acc + m = 0#4), sf := decide (s.acc.toNat + m.toNat < 16), pc := s.pc + 1#14 } ∧
    exec .sbcam s = .next { s with
      acc := m - s.acc - (BitVec.ofBool !s.cf).setWidth 4,
      cf := decide (s.acc.toNat + (!s.cf).toNat ≤ m.toNat),
      zf := decide (m - s.acc - (BitVec.ofBool !s.cf).setWidth 4 = 0#4),
      sf := decide (s.acc.toNat + (!s.cf).toNat ≤ m.toNat), pc := s.pc + 1#14 }

/-- ADD, ADDM, INCM, SUBM, DECM (R202, R207, R237, R296, R225): the cell gets the result, every other cell and every register is
unchanged; ZF of the new cell, SF from this operation's carry or no-borrow (decision D1, log entry 19). -/
def Obligations.ArithmeticOnCell : Prop :=
  ∀ (s : State) (k m : Nibble),
    (∀ y : Nibble, s.cellHolds (zeroPage y) m → ∃ r, exec (.add k y) s = .next { s with
        ram := r, zf := decide (m + k = 0#4), sf := decide (m.toNat + k.toNat < 16), pc := s.pc + 2#14 } ∧
        Memory.writtenAt s.ram r y.toNat (m + k)) ∧
    (s.cellHolds s.hl m →
      (∃ r, exec (.addm k) s = .next { s with
        ram := r, zf := decide (m + k = 0#4), sf := decide (m.toNat + k.toNat < 16), pc := s.pc + 2#14 } ∧
        Memory.writtenAt s.ram r s.hl.toNat (m + k)) ∧
      (∃ r, exec .incm s = .next { s with
        ram := r, zf := decide (m = 15#4), sf := decide (m ≠ 15#4), pc := s.pc + 1#14 } ∧
        Memory.writtenAt s.ram r s.hl.toNat (m + 1#4)) ∧
      (∃ r, exec (.subm k) s = .next { s with
        ram := r, zf := decide (k = m), sf := decide (m.toNat ≤ k.toNat), pc := s.pc + 2#14 } ∧
        Memory.writtenAt s.ram r s.hl.toNat (k - m)) ∧
      (∃ r, exec .decm s = .next { s with
        ram := r, zf := decide (m = 1#4), sf := decide (m ≠ 0#4), pc := s.pc + 1#14 } ∧
        Memory.writtenAt s.ram r s.hl.toNat (m - 1#4)))

/-! ### Logic, rotates, compares -/

/-- ANDA, ORA, ANDAM, ORAM, XORAM, ANDM, ORM (R208, R260, R209, R261, R309, R210, R262): ZF of the result, SF its inverse; ANDM and ORM put
the result into the cell at HL and leave Acc. -/
def Obligations.BitwiseLogic : Prop :=
  ∀ (s : State) (k m : Nibble),
    exec (.anda k) s = .next { s with
      acc := s.acc &&& k, zf := decide (s.acc &&& k = 0#4), sf := decide (s.acc &&& k ≠ 0#4), pc := s.pc + 2#14 } ∧
    exec (.ora k) s = .next { s with
      acc := s.acc ||| k, zf := decide (s.acc ||| k = 0#4), sf := decide (s.acc ||| k ≠ 0#4), pc := s.pc + 2#14 } ∧
    (s.cellHolds s.hl m →
      exec .andam s = .next { s with
        acc := s.acc &&& m, zf := decide (s.acc &&& m = 0#4), sf := decide (s.acc &&& m ≠ 0#4), pc := s.pc + 1#14 } ∧
      exec .oram s = .next { s with
        acc := s.acc ||| m, zf := decide (s.acc ||| m = 0#4), sf := decide (s.acc ||| m ≠ 0#4), pc := s.pc + 1#14 } ∧
      exec .xoram s = .next { s with
        acc := s.acc ^^^ m, zf := decide (s.acc = m), sf := decide (s.acc ≠ m), pc := s.pc + 1#14 } ∧
      (∃ r, exec (.andm k) s = .next { s with
        ram := r, zf := decide (m &&& k = 0#4), sf := decide (m &&& k ≠ 0#4), pc := s.pc + 2#14 } ∧
        Memory.writtenAt s.ram r s.hl.toNat (m &&& k)) ∧
      (∃ r, exec (.orm k) s = .next { s with
        ram := r, zf := decide (m ||| k = 0#4), sf := decide (m ||| k ≠ 0#4), pc := s.pc + 2#14 } ∧
        Memory.writtenAt s.ram r s.hl.toNat (m ||| k)))

/-- RLCA and RRCA (R267, R268): a ring of five bits, Acc and CF. -/
def Obligations.RotateThroughCarry : Prop :=
  ∀ s : State,
    exec .rlca s = .next { s with
      acc := (s.acc <<< 1) ||| (BitVec.ofBool s.cf).setWidth 4, cf := s.acc.getLsbD 3,
      zf := decide ((s.acc <<< 1) ||| (BitVec.ofBool s.cf).setWidth 4 = 0#4), sf := !s.acc.getLsbD 3, pc := s.pc + 1#14 } ∧
    exec .rrca s = .next { s with
      acc := (s.acc >>> 1) ||| ((BitVec.ofBool s.cf).setWidth 4 <<< 3), cf := s.acc.getLsbD 0,
      zf := decide ((s.acc >>> 1) ||| ((BitVec.ofBool s.cf).setWidth 4 <<< 3) = 0#4), sf := !s.acc.getLsbD 0,
      pc := s.pc + 1#14 }

/-- "Five RLCA in a row restore Acc and CF" (R267 corner case 2), and five RRCA do; an RRCA undoes an RLCA (R267, R268). -/
def Obligations.RotatesAreARing : Prop :=
  ∀ s : State,
    (∃ a b c d t, exec .rlca s = .next a ∧ exec .rlca a = .next b ∧ exec .rlca b = .next c ∧ exec .rlca c = .next d ∧
      exec .rlca d = .next t ∧ t.acc = s.acc ∧ t.cf = s.cf) ∧
    (∃ a b c d t, exec .rrca s = .next a ∧ exec .rrca a = .next b ∧ exec .rrca b = .next c ∧ exec .rrca c = .next d ∧
      exec .rrca d = .next t ∧ t.acc = s.acc ∧ t.cf = s.cf) ∧
    (∃ a t, exec .rlca s = .next a ∧ exec .rrca a = .next t ∧ t.acc = s.acc ∧ t.cf = s.cf)

/-- The compares: CMP, CMPA, CMPM, CMPIA (R217, R218, R219, R221) write CF (first operand >= second), ZF (equal) and SF (different); CMPH
and CMPL (R220, R222) write ZF (equal) and SF (k >= register). Nothing else is written. -/
def Obligations.Compares : Prop :=
  ∀ (s : State) (k m : Nibble),
    (∀ y : Nibble, s.cellHolds (zeroPage y) m → exec (.cmp k y) s = .next { s with
      cf := decide (m.toNat ≤ k.toNat), zf := decide (k = m), sf := decide (k ≠ m), pc := s.pc + 2#14 }) ∧
    (∀ x : DataAddr, s.cellHolds x m → exec (.cmpa x) s = .next { s with
      cf := decide (s.acc.toNat ≤ m.toNat), zf := decide (m = s.acc), sf := decide (m ≠ s.acc), pc := s.pc + 2#14 }) ∧
    (s.cellHolds s.hl m → exec .cmpm s = .next { s with
      cf := decide (s.acc.toNat ≤ m.toNat), zf := decide (m = s.acc), sf := decide (m ≠ s.acc), pc := s.pc + 1#14 }) ∧
    exec (.cmpia k) s = .next { s with
      cf := decide (s.acc.toNat ≤ k.toNat), zf := decide (k = s.acc), sf := decide (k ≠ s.acc), pc := s.pc + 1#14 } ∧
    exec (.cmph k) s = .next { s with zf := decide (k = s.hr), sf := decide (s.hr.toNat ≤ k.toNat), pc := s.pc + 2#14 } ∧
    exec (.cmpl k) s = .next { s with zf := decide (k = s.lr), sf := decide (s.lr.toNat ≤ k.toNat), pc := s.pc + 2#14 }

/-! ### Loads -/

/-- LDH, LDIA, LDL (R255, R257, R258): the byte, its length and cycles, the effect in every state, and the faults of a fetch, which every
instruction shares. The faults are the spec's choices: ProgramAddress outside program memory is decision D10 (log entry 7), UnwrittenRead
for a program byte the image does not define is decision D33 (10_state.md R39, log entry 2). -/
def Obligations.LoadImmediate : Prop :=
  (∀ (s : State) (k : Nibble) (rest : List Byte),
    (decode s.params ((0b1001#4 ++ k : Byte) :: rest) = .instr (.ldh k) rest ∧ instrCycles (.ldh k) = 1 ∧
      exec (.ldh k) s = .next { s with hr := k, sf := true, pc := s.pc + 1#14 }) ∧
    (decode s.params ((0b1101#4 ++ k : Byte) :: rest) = .instr (.ldia k) rest ∧ instrCycles (.ldia k) = 1 ∧
      exec (.ldia k) s = .next { s with acc := k, zf := decide (k = 0#4), sf := true, pc := s.pc + 1#14 }) ∧
    (decode s.params ((0b1000#4 ++ k : Byte) :: rest) = .instr (.ldl k) rest ∧ instrCycles (.ldl k) = 1 ∧
      exec (.ldl k) s = .next { s with lr := k, sf := true, pc := s.pc + 1#14 })) ∧
  (∀ s : State, s.params.chip.romSize ≤ s.pc.toNat → s.fetch = .error (.programAddress s.pc.toNat)) ∧
  (∀ s : State, s.pc.toNat < s.params.chip.romSize → s.rom.read s.pc.toNat = none →
    s.fetch = .error (.unwrittenRead (.rom s.pc.toNat)))

/-- LDA and LDAM (R241, R245): Acc gets the cell, ZF is that of the value, SF = 1. -/
def Obligations.LoadFromCell : Prop :=
  ∀ (s : State) (m : Nibble),
    (∀ x : DataAddr, s.cellHolds x m → exec (.lda x) s = .next { s with
      acc := m, zf := decide (m = 0#4), sf := true, pc := s.pc + 2#14 }) ∧
    (s.cellHolds s.hl m → exec .ldam s = .next { s with
      acc := m, zf := decide (m = 0#4), sf := true, pc := s.pc + 1#14 })

/-- The loads of special-register parts and the copies of HR and LR (R242 to R244, R246 to R252, R303, R304): Acc gets the nibble, ZF is
that of it, SF = 1. -/
def Obligations.LoadFromRegister : Prop :=
  ∀ s : State,
    (∀ (i : Instr) (v : Nibble),
      (i, v) ∈ [(Instr.ldadpl, s.dp.extractLsb' 0 4), (.ldadpm, s.dp.extractLsb' 4 4), (.ldadph, s.dp.extractLsb' 8 4),
        (.ldasp, s.sp), (.ldatal, s.ta.extractLsb' 0 4), (.ldatam, s.ta.extractLsb' 4 4), (.ldatah, s.ta.extractLsb' 8 4),
        (.ldatbl, s.tb.extractLsb' 0 4), (.ldatbm, s.tb.extractLsb' 4 4), (.ldatbh, s.tb.extractLsb' 8 4)] →
      exec i s = .next { s with acc := v, zf := decide (v = 0#4), sf := true, pc := s.pc + 2#14 }) ∧
    exec .tha s = .next { s with acc := s.hr, zf := decide (s.hr = 0#4), sf := true, pc := s.pc + 1#14 } ∧
    exec .tla s = .next { s with acc := s.lr, zf := decide (s.lr = 0#4), sf := true, pc := s.pc + 1#14 }

/-- LDHL and EXHL (R256, R233) with x a multiple of 4: L goes with x, H with x + 1, and EXHL stores the old pair there; no other cell
changes; CF and ZF are not written. -/
def Obligations.PointerPairLoadAndExchange : Prop :=
  ∀ (s : State) (x : DataAddr) (l h : Nibble), x.toNat % 4 = 0 → s.cellHolds x l → s.cellHolds (x + 1#8) h →
    exec (.ldhl x) s = .next { s with lr := l, hr := h, sf := true, pc := s.pc + 2#14 } ∧
    ∃ r, exec (.exhl x) s = .next { s with lr := l, hr := h, ram := r, sf := true, pc := s.pc + 2#14 } ∧
      r.read x.toNat = some s.lr ∧ r.read (x.toNat + 1) = some s.hr ∧
      ∀ b : Nat, b ≠ x.toNat → b ≠ x.toNat + 1 → r.read b = s.ram.read b

/-- LDAX and LDAXI (R253, R254, 20_memory.md R65): the low and the high nibble of the table byte, at DP on the 2K and 4K chips and at
1000h + DP on the 8K chip; LDAXI then adds 1 to DP modulo 4096. ZF is that of the nibble (decision D21, log entry 19); the table address
is decision D20 (log entry 29). A table byte the image does not define faults (10_state.md R39, decision D33, log entry 2); on the 2K
chip DP >= 800h faults. -/
def Obligations.TableLoads : Prop :=
  ∀ (s : State) (a : Nat), a = s.dp.toNat + (if s.params.chip = .rom8K then 0x1000 else 0) →
    (∀ b : Byte, (s.params.chip = .rom2K → s.dp.toNat < 0x800) → s.rom.read a = some b →
      exec .ldax s = .next { s with
        acc := b.extractLsb' 0 4, zf := decide (b.toNat % 16 = 0), sf := true, pc := s.pc + 1#14 } ∧
      exec .ldaxi s = .next { s with
        acc := b.extractLsb' 4 4, dp := s.dp + 1#12, zf := decide (b.toNat < 16), sf := true, pc := s.pc + 1#14 }) ∧
    ((s.params.chip = .rom2K → s.dp.toNat < 0x800) → s.rom.read a = none →
      exec .ldax s = .fault (.unwrittenRead (.rom a)) ∧ exec .ldaxi s = .fault (.unwrittenRead (.rom a))) ∧
    (s.params.chip = .rom2K → 0x800 ≤ s.dp.toNat →
      exec .ldax s = .fault (.programAddress s.dp.toNat) ∧ exec .ldaxi s = .fault (.programAddress s.dp.toNat))

/-! ### Stores and exchanges -/

/-- STA, STAM, STD (R279, R283, R293) at a valid address: that cell gets the value, every other cell reads as before; SF = 1, no other
flag and no register is written. -/
def Obligations.StoreToCell : Prop :=
  ∀ s : State,
    (∀ x : DataAddr, s.validData x = true → ∃ r, exec (.sta x) s = .next { s with
      ram := r, sf := true, pc := s.pc + 2#14 } ∧ Memory.writtenAt s.ram r x.toNat s.acc) ∧
    (s.validData s.hl = true → ∃ r, exec .stam s = .next { s with
      ram := r, sf := true, pc := s.pc + 1#14 } ∧ Memory.writtenAt s.ram r s.hl.toNat s.acc) ∧
    (∀ k y : Nibble, s.validData (zeroPage y) = true → ∃ r, exec (.std k y) s = .next { s with
      ram := r, sf := true, pc := s.pc + 2#14 } ∧ Memory.writtenAt s.ram r y.toNat k)

/-- STAMD, STAMI, STDMI (R284, R285, R294): a store at the HL of before, then LR steps by one modulo 16 without touching HR; ZF is that of
the value stored, SF = 0 exactly when LR wraps (decision D1, log entry 19). -/
def Obligations.StoreThenStepPointer : Prop :=
  ∀ (s : State) (k : Nibble), s.validData s.hl = true →
    (∃ r, exec .stamd s = .next { s with
      ram := r, lr := s.lr - 1#4, zf := decide (s.acc = 0#4), sf := decide (s.lr ≠ 0#4), pc := s.pc + 1#14 } ∧
      Memory.writtenAt s.ram r s.hl.toNat s.acc) ∧
    (∃ r, exec .stami s = .next { s with
      ram := r, lr := s.lr + 1#4, zf := decide (s.acc = 0#4), sf := decide (s.lr ≠ 15#4), pc := s.pc + 1#14 } ∧
      Memory.writtenAt s.ram r s.hl.toNat s.acc) ∧
    (∃ r, exec (.stdmi k) s = .next { s with
      ram := r, lr := s.lr + 1#4, zf := decide (k = 0#4), sf := decide (s.lr ≠ 15#4), pc := s.pc + 1#14 } ∧
      Memory.writtenAt s.ram r s.hl.toNat k)

/-- The stores to special-register parts (R280 to R282, R286 to R292): one nibble gets Acc, the other two of the register keep their
values; SF = 1. -/
def Obligations.StoreToRegister : Prop :=
  ∀ s : State,
    exec .stadpl s = .next { s with dp := s.dp.extractLsb' 4 8 ++ s.acc, sf := true, pc := s.pc + 2#14 } ∧
    exec .stadpm s = .next { s with
      dp := s.dp.extractLsb' 8 4 ++ s.acc ++ s.dp.extractLsb' 0 4, sf := true, pc := s.pc + 2#14 } ∧
    exec .stadph s = .next { s with dp := s.acc ++ s.dp.extractLsb' 0 8, sf := true, pc := s.pc + 2#14 } ∧
    exec .stasp s = .next { s with sp := s.acc, sf := true, pc := s.pc + 2#14 } ∧
    exec .statal s = .next { s with ta := s.ta.extractLsb' 4 8 ++ s.acc, sf := true, pc := s.pc + 2#14 } ∧
    exec .statam s = .next { s with
      ta := s.ta.extractLsb' 8 4 ++ s.acc ++ s.ta.extractLsb' 0 4, sf := true, pc := s.pc + 2#14 } ∧
    exec .statah s = .next { s with ta := s.acc ++ s.ta.extractLsb' 0 8, sf := true, pc := s.pc + 2#14 } ∧
    exec .statbl s = .next { s with tb := s.tb.extractLsb' 4 8 ++ s.acc, sf := true, pc := s.pc + 2#14 } ∧
    exec .statbm s = .next { s with
      tb := s.tb.extractLsb' 8 4 ++ s.acc ++ s.tb.extractLsb' 0 4, sf := true, pc := s.pc + 2#14 } ∧
    exec .statbh s = .next { s with tb := s.acc ++ s.tb.extractLsb' 0 8, sf := true, pc := s.pc + 2#14 }

/-- LDA and STA with one of the ten address bytes of 10_state.md R41 are the special-register forms (R241, R279, 20_memory.md R63). -/
def Obligations.WindowAddressesAreRegisters : Prop :=
  ∀ (s : State) (x : DataAddr) (load store : Instr),
    (x, load, store) ∈ [(0xF4#8, Instr.ldatal, Instr.statal), (0xF5#8, .ldatam, .statam), (0xF6#8, .ldatah, .statah),
      (0xF8#8, .ldatbl, .statbl), (0xF9#8, .ldatbm, .statbm), (0xFA#8, .ldatbh, .statbh), (0xFC#8, .ldadpl, .stadpl),
      (0xFD#8, .ldadpm, .stadpm), (0xFE#8, .ldadph, .stadph), (0xFF#8, .ldasp, .stasp)] →
    exec (.lda x) s = exec load s ∧ exec (.sta x) s = exec store s ∧
      decode s.params [0x6A#8, x] = .instr load [] ∧ decode s.params [0x69#8, x] = .instr store []

/-- EXA, EXAM, EXAH, EXAL, EXAE (R228, R232, R230, R231, R229): the two values change places; ZF is that of the new Acc (decision D27, log
entry 19), except EXAE, which does not write it; SF = 1. EXAE runs with or without INT_CONFIG: that it never refuses early is this model's
choice among those of R401 and R402 (decision D15, log entry 11); and whatever EXAE_OPCODE is (log entry 23). -/
def Obligations.Exchanges : Prop :=
  ∀ (s : State) (m : Nibble),
    (∀ x : DataAddr, s.cellHolds x m → ∃ r, exec (.exa x) s = .next { s with
      acc := m, ram := r, zf := decide (m = 0#4), sf := true, pc := s.pc + 2#14 } ∧
      Memory.writtenAt s.ram r x.toNat s.acc) ∧
    (s.cellHolds s.hl m → ∃ r, exec .exam s = .next { s with
      acc := m, ram := r, zf := decide (m = 0#4), sf := true, pc := s.pc + 1#14 } ∧
      Memory.writtenAt s.ram r s.hl.toNat s.acc) ∧
    exec .exah s = .next { s with
      acc := s.hr, hr := s.acc, zf := decide (s.hr = 0#4), sf := true, pc := s.pc + 1#14 } ∧
    exec .exal s = .next { s with
      acc := s.lr, lr := s.acc, zf := decide (s.lr = 0#4), sf := true, pc := s.pc + 1#14 } ∧
    exec .exae s = .next { s with acc := s.eir, eir := s.acc, sf := true, pc := s.pc + 1#14 }

/-! ### Bits and flags -/

/-- Clearing, setting and testing a bit (00_scope.md R15), for the data-memory bits and the port bits alike: bit b changes, "the other
three bits keep their values". -/
def Obligations.BitHelpers : Prop :=
  ∀ (v : Nibble) (b j : BitNo),
    testBit v b = v.getLsbD b.toNat ∧
    testBit (clearBit v b) j = (testBit v j && decide (j ≠ b)) ∧ clearBit v b = v &&& ~~~(1#4 <<< b.toNat) ∧
    testBit (setBit v b) j = (testBit v j || decide (j = b)) ∧ setBit v b = v ||| (1#4 <<< b.toNat)

/-- CLM, SEM, CLR, SET (R213, R273, R216, R276): one bit of one cell; SF = 1, ZF not written even when the cell becomes 0. -/
def Obligations.BitsOfCells : Prop :=
  ∀ (s : State) (m : Nibble) (b : BitNo),
    (s.cellHolds s.hl m →
      (∃ r, exec (.clm b) s = .next { s with ram := r, sf := true, pc := s.pc + 1#14 } ∧
        Memory.writtenAt s.ram r s.hl.toNat (m &&& ~~~(1#4 <<< b.toNat))) ∧
      (∃ r, exec (.sem b) s = .next { s with ram := r, sf := true, pc := s.pc + 1#14 } ∧
        Memory.writtenAt s.ram r s.hl.toNat (m ||| (1#4 <<< b.toNat)))) ∧
    (∀ y : Nibble, s.cellHolds (zeroPage y) m →
      (∃ r, exec (.clr y b) s = .next { s with ram := r, sf := true, pc := s.pc + 2#14 } ∧
        Memory.writtenAt s.ram r y.toNat (m &&& ~~~(1#4 <<< b.toNat))) ∧
      (∃ r, exec (.set y b) s = .next { s with ram := r, sf := true, pc := s.pc + 2#14 } ∧
        Memory.writtenAt s.ram r y.toNat (m ||| (1#4 <<< b.toNat))))

/-- TFA, TFM, TT, TFCFC, TTCFS, TZS (R297, R299, R305, R298, R306, R308): SF gets the bit or its inverse; TFCFC and TTCFS then clear and
set CF. -/
def Obligations.TestsIntoStatusFlag : Prop :=
  ∀ (s : State) (m : Nibble) (b : BitNo),
    exec (.tfa b) s = .next { s with sf := !s.acc.getLsbD b.toNat, pc := s.pc + 1#14 } ∧
    (s.cellHolds s.hl m → exec (.tfm b) s = .next { s with sf := !m.getLsbD b.toNat, pc := s.pc + 1#14 }) ∧
    (∀ y : Nibble, s.cellHolds (zeroPage y) m →
      exec (.tt y b) s = .next { s with sf := m.getLsbD b.toNat, pc := s.pc + 2#14 }) ∧
    exec .tfcfc s = .next { s with sf := !s.cf, cf := false, pc := s.pc + 1#14 } ∧
    exec .ttcfs s = .next { s with sf := s.cf, cf := true, pc := s.pc + 1#14 } ∧
    exec .tzs s = .next { s with sf := s.zf, pc := s.pc + 1#14 }

/-- CGF, SGF, TGS (R211, R277, R302): the general flag on the 2K and 4K chips; on the 8K chip the byte is no such instruction and faults
(decision D26). -/
def Obligations.GeneralFlag : Prop :=
  ∀ s : State,
    (s.params.chip ≠ .rom8K →
      exec .cgf s = .next { s with gf := false, sf := true, pc := s.pc + 1#14 } ∧
      exec .sgf s = .next { s with gf := true, sf := true, pc := s.pc + 1#14 } ∧
      exec .tgs s = .next { s with sf := s.gf, pc := s.pc + 1#14 }) ∧
    (s.params.chip = .rom8K →
      exec .cgf s = .fault (.reservedEncoding [0x57#8] s.pc) ∧
      exec .sgf s = .fault (.reservedEncoding [0x55#8] s.pc) ∧
      exec .tgs s = .fault (.reservedEncoding [0x54#8] s.pc))

/-! ### Ports -/

/-- INA, INM, TFP, TTP, TFPL (R234, R238, R300, R307, R301) on a readable port: the value v is whatever the environment answers to this read
(a free value, log entry 13); that the environment and not the latch is read is decision D18 (log entry 21); the read is recorded as one
event (log entry 14), and INM writes no ZF (decision D2, log entry 19). -/
def Obligations.PortReads : Prop :=
  ∀ (s : State) (p : Nibble) (b : BitNo),
    (s.readable (portOf p) = true → ∃ v : Nibble, v = Config.portInput s.portReads (portOf p) ∧
      exec (.ina p) s = .next { s with
        acc := v, zf := decide (v = 0#4), sf := decide (v ≠ 0#4), portReads := s.portReads + 1,
        events := s.events ++ [.read (portOf p) v], pc := s.pc + 2#14 } ∧
      exec (.tfp p b) s = .next { s with
        sf := !v.getLsbD b.toNat, portReads := s.portReads + 1,
        events := s.events ++ [.read (portOf p) v], pc := s.pc + 2#14 } ∧
      exec (.ttp p b) s = .next { s with
        sf := v.getLsbD b.toNat, portReads := s.portReads + 1,
        events := s.events ++ [.read (portOf p) v], pc := s.pc + 2#14 } ∧
      (s.validData s.hl = true → ∃ r, exec (.inm p) s = .next { s with
        ram := r, sf := decide (v ≠ 0#4), portReads := s.portReads + 1,
        events := s.events ++ [.read (portOf p) v], pc := s.pc + 2#14 } ∧
        Memory.writtenAt s.ram r s.hl.toNat v)) ∧
    (∀ q : PortNo, q.toNat = 4 + s.lr.toNat / 4 → s.readable q = true →
      ∃ v : Nibble, v = Config.portInput s.portReads q ∧
      exec .tfpl s = .next { s with
        sf := !v.getLsbD (s.lr.toNat % 4), portReads := s.portReads + 1,
        events := s.events ++ [.read q v], pc := s.pc + 1#14 })

/-- OUT and OUTA (R263, R264) on a writable port: its latch gets the value, no other latch changes, one write event is recorded, SF = 1.
The latch is decision D18 (log entry 21), the record of events log entry 14. -/
def Obligations.PortOutput : Prop :=
  ∀ (s : State) (k p : Nibble) (q : PortNo),
    (s.writable (portOf p) = true → ∃ o, exec (.out k p) s = .next { s with
      portOut := o, events := s.events ++ [.write (portOf p) k], sf := true, pc := s.pc + 2#14 } ∧
      ∀ j : Fin 32, o[j] = if j.val = p.toNat then k else s.portOut[j]) ∧
    (s.writable q = true → ∃ o, exec (.outa q) s = .next { s with
      portOut := o, events := s.events ++ [.write q s.acc], sf := true, pc := s.pc + 2#14 } ∧
      ∀ j : Fin 32, o[j] = if j.val = q.toNat then s.acc else s.portOut[j])

/-- CLP, SEP, CLPL, SEPL (R214, R274, R215, R275): one bit of a port's output latch, the other bits as the latch has them and not as the
pins show (decision D18, log entry 21); CLPL and SEPL act on port 4 + LR[3:2], bit LR[1:0]. -/
def Obligations.PortBits : Prop :=
  ∀ (s : State) (p : Nibble) (b : BitNo) (q : PortNo),
    (s.writable (portOf p) = true →
      (∃ o, exec (.clp p b) s = .next { s with
        portOut := o, events := s.events ++ [.write (portOf p) (s.latch (portOf p) &&& ~~~(1#4 <<< b.toNat))],
        sf := true, pc := s.pc + 2#14 } ∧
        ∀ j : Fin 32, o[j] = if j.val = p.toNat then s.portOut[j] &&& ~~~(1#4 <<< b.toNat) else s.portOut[j]) ∧
      (p ≠ 0#4 → ∃ o, exec (.sep p b) s = .next { s with
        portOut := o, events := s.events ++ [.write (portOf p) (s.latch (portOf p) ||| (1#4 <<< b.toNat))],
        sf := true, pc := s.pc + 2#14 } ∧
        ∀ j : Fin 32, o[j] = if j.val = p.toNat then s.portOut[j] ||| (1#4 <<< b.toNat) else s.portOut[j])) ∧
    (q.toNat = 4 + s.lr.toNat / 4 → s.writable q = true →
      (∃ o, exec .clpl s = .next { s with
        portOut := o, events := s.events ++ [.write q (s.latch q &&& ~~~(1#4 <<< (s.lr.toNat % 4)))],
        sf := true, pc := s.pc + 1#14 } ∧
        ∀ j : Fin 32, o[j] = if j.val = q.toNat then s.portOut[j] &&& ~~~(1#4 <<< (s.lr.toNat % 4)) else s.portOut[j]) ∧
      (∃ o, exec .sepl s = .next { s with
        portOut := o, events := s.events ++ [.write q (s.latch q ||| (1#4 <<< (s.lr.toNat % 4)))],
        sf := true, pc := s.pc + 1#14 } ∧
        ∀ j : Fin 32, o[j] = if j.val = q.toNat then s.portOut[j] ||| (1#4 <<< (s.lr.toNat % 4)) else s.portOut[j]))

/-- OUT12 (R265, 20_memory.md R65): the byte of the last 32 of program memory that CF . RAM[HL] selects goes to ports 1 and 2, low nibble to
port 1, in one event (decision D31, log entry 29). A table byte the image does not define faults (10_state.md R39, decision D33, log
entry 2). -/
def Obligations.TableDrivenOutput : Prop :=
  ∀ (s : State) (m : Nibble) (a : Nat), s.cellHolds s.hl m → a = s.params.chip.romSize - 32 + 16 * s.cf.toNat + m.toNat →
    (∀ b : Byte, s.rom.read a = some b → s.writable 1#5 = true → s.writable 2#5 = true →
      ∃ o, exec .out12 s = .next { s with
        portOut := o, events := s.events ++ [.write2 1#5 (b.extractLsb' 0 4) 2#5 (b.extractLsb' 4 4)],
        sf := true, pc := s.pc + 1#14 } ∧
        ∀ j : Fin 32, o[j] = if j.val = 1 then b.extractLsb' 0 4 else if j.val = 2 then b.extractLsb' 4 4 else s.portOut[j]) ∧
    (s.rom.read a = none → exec .out12 s = .fault (.unwrittenRead (.rom a)))

/-! ### Control -/

/-- SBR, LBR, SLBR (R271, R239, R278): taken when SF = 1, SF = 1 afterwards either way. SBR stays in the 64-byte page of the next
instruction, also from the last byte of a page; LBR in its bank, PC <- a on the 2K and 4K chips; SLBR, on the 8K chip, reaches any address.
The bank of LBR is decision D9; SBR in the last byte, and LBR in the last two, of the 13-bit space are log entry 8, LBR at the end of the 4K
chip log entry 9. A target outside program memory faults at the next fetch only (decision D29, log entry 7);
SLBR runs whatever SLBR_PREFIX is (log entry 23). -/
def Obligations.Branches : Prop :=
  ∀ s : State,
    (∀ a : BitVec 6, s.pc.toNat ≤ 0x1FFF → ∃ target : CodeAddr,
      exec (.sbr a) s = .next { s with pc := if s.sf then target else s.pc + 1#14, sf := true } ∧
      target.toNat = (s.pc.toNat + 1) % 0x2000 / 64 * 64 + a.toNat) ∧
    (∀ a : BitVec 12, s.params.chip ≠ .rom8K →
      exec (.lbr a) s = .next { s with pc := if s.sf then a.setWidth 14 else s.pc + 2#14, sf := true }) ∧
    (∀ a : BitVec 12, s.params.chip = .rom8K → s.pc.toNat ≤ 0x1FFE → ∃ target : CodeAddr,
      exec (.lbr a) s = .next { s with pc := if s.sf then target else s.pc + 2#14, sf := true } ∧
      target.toNat = (s.pc.toNat + 2) % 0x2000 / 4096 * 4096 + a.toNat) ∧
    (∀ a : BitVec 13, s.params.chip = .rom8K →
      exec (.slbr a) s = .next { s with pc := if s.sf then a.setWidth 14 else s.pc + 3#14, sf := true })

/-- LCALL and SCALL (R240, R272): the address of the next instruction (decision D8) is stored at STACK[SP] without flags, SP is decremented
modulo 16 (decision D7; both log entry 18), PC gets the target; no flag is written. SCALL's target is 8n + 6, and 86h for n = 0.
A target outside program memory faults at the next fetch only (decision D29, log entry 7). -/
def Obligations.Calls : Prop :=
  ∀ s : State,
    (∀ a : BitVec 11, ∃ st, exec (.lcall a) s = .next { s with
      stack := st, sp := s.sp - 1#4, pc := a.setWidth 14 } ∧
      Memory.writtenAt s.stack st s.sp.toNat ⟨s.pc + 2#14, none⟩) ∧
    (∀ n : Nibble, ∃ st, ∃ target : CodeAddr, exec (.scall n) s = .next { s with
      stack := st, sp := s.sp - 1#4, pc := target } ∧
      target.toNat = (if n = 0#4 then 0x86 else 8 * n.toNat + 6) ∧
      Memory.writtenAt s.stack st s.sp.toNat ⟨s.pc + 1#14, none⟩)

/-- RET and RTI (R266, R269): SP is incremented modulo 16 over the separate stack of 16 entries (decision D7, log entry 18, a choice of the
spec) and the entry there gives PC, and for RTI also CF, ZF and SF, with EIF = 1. RET writes no flag; RTI leaves GF (decision D16, log
entry 22). RTI runs with or without INT_CONFIG: that it never refuses early is this model's choice among those of
R401 and R402 (decision D15, log entry 11). An entry never written, or without flags for RTI, faults (decision D33, log entry 2). -/
def Obligations.Returns : Prop :=
  ∀ s : State,
    (∀ e : StackEntry, s.stack.read (s.sp + 1#4).toNat = some e →
      exec .ret s = .next { s with sp := s.sp + 1#4, pc := e.pc }) ∧
    (∀ (pc : CodeAddr) (f : Flags), s.stack.read (s.sp + 1#4).toNat = some ⟨pc, some f⟩ →
      exec .rti s = .next { s with sp := s.sp + 1#4, eif := true, cf := f.c, zf := f.z, sf := f.s, pc := pc }) ∧
    (∀ pc : CodeAddr, s.stack.read (s.sp + 1#4).toNat = some ⟨pc, none⟩ →
      exec .rti s = .fault (.unwrittenRead (.stackFlags (s.sp + 1#4)))) ∧
    (s.stack.read (s.sp + 1#4).toNat = none →
      exec .ret s = .fault (.unwrittenRead (.stackPc (s.sp + 1#4))) ∧
      exec .rti s = .fault (.unwrittenRead (.stackFlags (s.sp + 1#4))))

/-- A return finds what the call left: after LCALL or SCALL, RET in any state with that stack and SP goes back to the instruction after the
call with SP as before it, and RTI there faults, because a call saves no flags (R240, R272, R266, 10_state.md R31). It rests on the spec's
choices D7, the separate stack of 16 entries whose pointer wraps, and D8, the address a call pushes (both log entry 18), and D33, by which
reading the unwritten flag part of an entry faults (log entry 2). -/
def Obligations.CallThenReturn : Prop :=
  ∀ (s t u : State), u.stack = t.stack → u.sp = t.sp →
    (∀ a : BitVec 11, exec (.lcall a) s = .next t →
      exec .ret u = .next { u with sp := s.sp, pc := s.pc + 2#14 } ∧
      exec .rti u = .fault (.unwrittenRead (.stackFlags s.sp))) ∧
    (∀ n : Nibble, exec (.scall n) s = .next t →
      exec .ret u = .next { u with sp := s.sp, pc := s.pc + 1#14 } ∧
      exec .rti u = .fault (.unwrittenRead (.stackFlags s.sp)))

/-- RTI "restores exactly what entry saved and re-enables interrupts" (60_exceptions.md R407, R408): after interrupt entry, RTI in any state
with that stack and SP gives back PC, CF, ZF, SF and SP and sets EIF. RET there restores no flag and leaves EIF. Entry is the spec's choice
D15 and D16 (log entry 22), the stack its choice D7 (log entry 18); that RTI runs with or without INT_CONFIG, never refusing early, is
log entry 11. -/
def Obligations.InterruptThenReturn : Prop :=
  ∀ (s u : State) (src : IntSource),
    u.stack = (s.enterInterrupt src).stack → u.sp = (s.enterInterrupt src).sp →
    exec .rti u = .next { u with sp := s.sp, eif := true, cf := s.cf, zf := s.zf, sf := s.sf, pc := s.pc } ∧
    exec .ret u = .next { u with sp := s.sp, pc := s.pc }

/-- NOP (R259): the byte 56h, one cycle, only PC advances; and the other instructions its rule names leave SF too, LCALL, SCALL and RET, while
RTI reloads it. -/
def Obligations.NoOperation : Prop :=
  ∀ s : State,
    (∀ rest : List Byte, decode s.params (0x56#8 :: rest) = .instr .nop rest) ∧ instrCycles .nop = 1 ∧
    exec .nop s = .next { s with pc := s.pc + 1#14 } ∧
    (∀ (i : Instr) (t : State), keepsSf i = true → exec i s = .next t → t.sf = s.sf)

/-- CIL, DICIL, EICIL (R212, R226, R227, 60_exceptions.md R404): latch i is kept where r_i = 1 and cleared where r_i = 0; DICIL clears EIF,
EICIL sets it, CIL leaves it; SF = 1. They run with or without INT_CONFIG (R402, log entry 11). -/
def Obligations.InterruptLatches : Prop :=
  ∀ (s : State) (r : Latches), ∃ l : Latches,
    (∀ j : Nat, l.getLsbD j = (s.il.getLsbD j && r.getLsbD j)) ∧
    exec (.cil r) s = .next { s with il := l, sf := true, pc := s.pc + 2#14 } ∧
    exec (.dicil r) s = .next { s with eif := false, il := l, sf := true, pc := s.pc + 2#14 } ∧
    exec (.eicil r) s = .next { s with eif := true, il := l, sf := true, pc := s.pc + 2#14 }

/-! ### Where instructions stop -/

/-- The reserved forms (30_encoding.md R108, R109): SEP with p = 0, LDHL and EXHL with x not a multiple of 4, SLBR off the 8K chip fault with
their bytes and PC (decisions D24, D25; log entries 23 and 28); and what is reserved as a first byte does not decode: 75h and 7Ah but for
EXAE_OPCODE, on the 8K chip 54h always and 55h and 57h without an SLBR_PREFIX (decision D26), so that SLBR begins with 55h or 57h, there
alone. -/
def Obligations.ReservedForms : Prop :=
  ∀ s : State,
    (∀ b : BitNo, exec (.sep 0#4 b) s = .fault (.reservedEncoding [0x6D#8, (0b01#2 ++ b ++ 0#4 : Byte)] s.pc)) ∧
    (∀ x : DataAddr, x.toNat % 4 ≠ 0 →
      exec (.ldhl x) s = .fault (.reservedEncoding [0x4E#8, x] s.pc) ∧
      exec (.exhl x) s = .fault (.reservedEncoding [0x4C#8, x] s.pc)) ∧
    (∀ a : BitVec 13, s.params.chip ≠ .rom8K → ∃ bs, exec (.slbr a) s = .fault (.reservedEncoding bs s.pc)) ∧
    (∀ (b : BitNo) (rest : List Byte), ∃ why,
      decode s.params (0x6D#8 :: (0b01#2 ++ b ++ 0#4 : Byte) :: rest) = .reserved why [0x6D#8, (0b01#2 ++ b ++ 0#4 : Byte)]) ∧
    (∀ (x : DataAddr) (rest : List Byte), x.toNat % 4 ≠ 0 → ∃ why,
      decode s.params (0x4E#8 :: x :: rest) = .reserved why [0x4E#8, x] ∧
      decode s.params (0x4C#8 :: x :: rest) = .reserved why [0x4C#8, x]) ∧
    (∀ b ∈ [0x75#8, 0x7A#8], ∀ rest : List Byte, s.params.exaeOpcode ≠ some b → ∃ why,
      decode s.params (b :: rest) = .reserved why [b]) ∧
    (∀ rest : List Byte, s.params.chip = .rom8K → ∃ why, decode s.params (0x54#8 :: rest) = .reserved why [0x54#8]) ∧
    (∀ b ∈ [0x55#8, 0x57#8], ∀ rest : List Byte, s.params.chip = .rom8K → s.params.slbrPrefix = none → ∃ why,
      decode s.params (b :: rest) = .reserved why [b]) ∧
    (∀ (b : Byte) (bs rest : List Byte) (a : BitVec 13), decode s.params (b :: bs) = .instr (.slbr a) rest →
      s.params.chip = .rom8K ∧ (b = 0x55#8 ∨ b = 0x57#8))

/-- Which addresses are data memory, and that an access to another faults with the address (10_state.md R22, 20_memory.md R61, R62, decisions
D4, D5): HL is HR . LR, HR the high half (decision D6, log entry 20, a choice of the spec), a zero-page address is y, and an address is
valid exactly when it is below RAM_SIZE, never from F0h on (log entry 27). The faults: all 24 HL-indirect instructions of R22, INM on a
readable port; the direct ones, LDHL and EXHL at x and at x + 1; the zero-page ones, where RAM_SIZE leaves y out (no lawful RAM_SIZE does);
LDA and STA outside the ten window addresses. -/
def Obligations.InvalidDataAddress : Prop :=
  ∀ (s : State) (k : Nibble) (b : BitNo),
    s.hl.toNat = 16 * s.hr.toNat + s.lr.toNat ∧ (∀ y : Nibble, (zeroPage y).toNat = y.toNat) ∧
    (∀ x : DataAddr, s.validData x = true ↔ x.toNat < s.params.ramSize ∧ x.toNat < 0xF0) ∧
    (s.validData s.hl = false →
      (∀ i ∈ [Instr.adcam, .addam, .addm k, .andam, .andm k, .clm b, .cmpm, .decm, .exam, .incm, .ldam, .oram, .orm k, .out12,
          .sbcam, .sem b, .stam, .stamd, .stami, .stdmi k, .subm k, .tfm b, .xoram],
        exec i s = .fault (.dataAddress s.hl)) ∧
      (∀ p : Nibble, s.readable (portOf p) = true → exec (.inm p) s = .fault (.dataAddress s.hl))) ∧
    (∀ x : DataAddr, s.validData x = false →
      exec (.cmpa x) s = .fault (.dataAddress x) ∧ exec (.exa x) s = .fault (.dataAddress x) ∧
      (x.toNat < 0xF4 ∨ x = 0xF7#8 ∨ x = 0xFB#8 →
        exec (.lda x) s = .fault (.dataAddress x) ∧ exec (.sta x) s = .fault (.dataAddress x)) ∧
      (x.toNat % 4 = 0 → exec (.ldhl x) s = .fault (.dataAddress x) ∧ exec (.exhl x) s = .fault (.dataAddress x))) ∧
    (∀ (x : DataAddr) (l : Nibble), x.toNat % 4 = 0 → s.cellHolds x l → s.validData (x + 1#8) = false →
      exec (.ldhl x) s = .fault (.dataAddress (x + 1#8)) ∧ exec (.exhl x) s = .fault (.dataAddress (x + 1#8))) ∧
    (∀ y : Nibble, s.validData (zeroPage y) = false →
      ∀ i ∈ [Instr.add k y, .clr y b, .cmp k y, .set y b, .std k y, .tt y b], exec i s = .fault (.dataAddress (zeroPage y)))

/-- Reading a data cell that nothing has written faults with its name (10_state.md R43, decision D33, log entry 2): every instruction that
reads the cell at HL, those that read a cell directly or in the zero page, and LDHL and EXHL, which read the cells at x and x + 1. -/
def Obligations.UnwrittenCell : Prop :=
  ∀ (s : State) (k : Nibble) (b : BitNo),
    (s.validData s.hl = true → s.ram.read s.hl.toNat = none →
      ∀ i ∈ [Instr.adcam, .addam, .addm k, .andam, .andm k, .clm b, .cmpm, .decm, .exam, .incm, .ldam, .oram, .orm k, .out12,
        .sbcam, .sem b, .subm k, .tfm b, .xoram], exec i s = .fault (.unwrittenRead (.ram s.hl))) ∧
    (∀ x : DataAddr, s.validData x = true → s.ram.read x.toNat = none →
      (∀ i ∈ [Instr.cmpa x, .exa x, .lda x], exec i s = .fault (.unwrittenRead (.ram x))) ∧
      (x.toNat % 4 = 0 → ∀ i ∈ [Instr.ldhl x, .exhl x], exec i s = .fault (.unwrittenRead (.ram x)))) ∧
    (∀ (x : DataAddr) (l : Nibble), x.toNat % 4 = 0 → s.cellHolds x l → s.validData (x + 1#8) = true →
      s.ram.read (x.toNat + 1) = none →
      ∀ i ∈ [Instr.ldhl x, .exhl x], exec i s = .fault (.unwrittenRead (.ram (x + 1#8)))) ∧
    (∀ y : Nibble, s.validData (zeroPage y) = true → s.ram.read y.toNat = none →
      ∀ i ∈ [Instr.add k y, .clr y b, .cmp k y, .set y b, .tt y b], exec i s = .fault (.unwrittenRead (.ram (zeroPage y))))

/-- A port that cannot be read or written faults with its number (00_scope.md R11, decisions D18, D32): the ports named by a 4-bit field and
by OUTA's five bits, port 4 + LR[3:2] for TFPL, CLPL and SEPL, and ports 1 and 2 for OUT12, port 1 reported before port 2 (log entry 30). -/
def Obligations.PortAccessFaults : Prop :=
  ∀ (s : State) (k p : Nibble) (b : BitNo) (q : PortNo),
    (portOf p).toNat = p.toNat ∧
    (s.readable (portOf p) = false → ∀ i ∈ [Instr.ina p, .inm p, .tfp p b, .ttp p b], exec i s = .fault (.portAccess (portOf p))) ∧
    (s.writable (portOf p) = false → exec (.out k p) s = .fault (.portAccess (portOf p)) ∧
      exec (.clp p b) s = .fault (.portAccess (portOf p)) ∧
      (p ≠ 0#4 → exec (.sep p b) s = .fault (.portAccess (portOf p)))) ∧
    (s.writable q = false → exec (.outa q) s = .fault (.portAccess q)) ∧
    (q.toNat = 4 + s.lr.toNat / 4 →
      (s.readable q = false → exec .tfpl s = .fault (.portAccess q)) ∧
      (s.writable q = false → exec .clpl s = .fault (.portAccess q) ∧ exec .sepl s = .fault (.portAccess q))) ∧
    (∀ (m : Nibble) (d : Byte), s.cellHolds s.hl m →
      s.rom.read (s.params.chip.romSize - 32 + 16 * s.cf.toNat + m.toNat) = some d →
      (s.writable 1#5 = false → exec .out12 s = .fault (.portAccess 1#5)) ∧
      (s.writable 1#5 = true → s.writable 2#5 = false → exec .out12 s = .fault (.portAccess 2#5)))

/-! ### Who writes what -/

/-- Only the instructions of 10_state.md R20 and R21 write Acc, HR and LR. -/
def Obligations.WorkingRegisterWriters : Prop :=
  ∀ (i : Instr) (s t : State), exec i s = .next t →
    (writesAcc i = false → t.acc = s.acc) ∧ (writesHr i = false → t.hr = s.hr) ∧ (writesLr i = false → t.lr = s.lr)

/-- Only the instructions of 10_state.md R25 write CF and only those of the Z column of R29 write ZF; GF is written by CGF and SGF alone
(R28). -/
def Obligations.CarryZeroGeneralWriters : Prop :=
  ∀ (i : Instr) (s t : State), exec i s = .next t →
    (writesCf i = false → t.cf = s.cf) ∧ (writesZf i = false → t.zf = s.zf) ∧
    (i ≠ .cgf → i ≠ .sgf → t.gf = s.gf)

/-- The status-flag discipline (10_state.md R27, R29, 70_reset_and_hazards.md R454): NOP, LCALL, SCALL and RET leave SF, and every instruction
whose S row is "always 1", and every branch, leaves SF = 1. -/
def Obligations.StatusFlagDiscipline : Prop :=
  ∀ (i : Instr) (s t : State), exec i s = .next t →
    (keepsSf i = true → t.sf = s.sf) ∧ (setsSf i = true → t.sf = true)

/-- Only calls, returns and STASP write SP; only the special-register stores and LDAXI write DP, TA and TB; only DICIL, EICIL and RTI write
EIF; only EXAE writes EIR; only CIL, DICIL and EICIL write IL, and no instruction sets a latch (10_state.md R30, R32 to R37). STA counts for
the special registers because of its window addresses (R41). -/
def Obligations.SpecialRegisterWriters : Prop :=
  ∀ (i : Instr) (s t : State), exec i s = .next t →
    (t.sp ≠ s.sp → (∃ a, i = .lcall a) ∨ (∃ n, i = .scall n) ∨ i = .ret ∨ i = .rti ∨ i = .stasp ∨ i = .sta 0xFF#8) ∧
    (t.dp ≠ s.dp → i ∈ [Instr.stadpl, .stadpm, .stadph, .ldaxi, .sta 0xFC#8, .sta 0xFD#8, .sta 0xFE#8]) ∧
    (t.ta ≠ s.ta → i ∈ [Instr.statal, .statam, .statah, .sta 0xF4#8, .sta 0xF5#8, .sta 0xF6#8]) ∧
    (t.tb ≠ s.tb → i ∈ [Instr.statbl, .statbm, .statbh, .sta 0xF8#8, .sta 0xF9#8, .sta 0xFA#8]) ∧
    (t.eif ≠ s.eif → (∃ r, i = .dicil r) ∨ (∃ r, i = .eicil r) ∨ i = .rti) ∧
    (t.eir ≠ s.eir → i = .exae) ∧
    (t.il ≠ s.il → (∃ r, i = .cil r) ∨ (∃ r, i = .dicil r) ∨ (∃ r, i = .eicil r)) ∧
    (∀ j : Nat, t.il.getLsbD j = true → s.il.getLsbD j = true)

/-- Only the storing instructions change data memory, only calls change the stack, only the port instructions change latches, record events or
count reads, and no instruction changes the parameters or program memory; PC is `next` but for the jumps (20_memory.md R72, R73, R79,
10_state.md R24, R31, R40, R44). -/
def Obligations.MemoryAndPortWriters : Prop :=
  ∀ (i : Instr) (s t : State), exec i s = .next t →
    (writesRam i = false → t.ram = s.ram) ∧
    (t.stack ≠ s.stack → (∃ a, i = .lcall a) ∨ (∃ n, i = .scall n)) ∧
    (writesPort i = false → t.portOut = s.portOut) ∧
    (readsPort i = false → t.portReads = s.portReads) ∧
    (writesPort i = false → readsPort i = false → t.events = s.events) ∧
    (jumps i = false → t.pc = s.pc + BitVec.ofNat 14 i.length) ∧
    t.params = s.params ∧ t.rom = s.rom ∧ t.agent = s.agent

/-- A step records at most one port event, after those recorded before, and never changes one (20_memory.md R74, R76). -/
def Obligations.EventsInProgramOrder : Prop :=
  ∀ s t : State, step s = .next t → ∃ l : List PortEvent, t.events = s.events ++ l ∧ l.length ≤ 1 ∧
    t.portReads = s.portReads + (l.filter PortEvent.isRead).length

/-! ### The whole machine -/

/-- "every read returns the value of the latest write to the same cell, register or latch" (20_memory.md R76), for data memory: after a write,
the cell reads as written and every other address reads, or faults, as before. -/
def Obligations.MemoryReadAfterWrite : Prop :=
  ∀ (s t : State) (a : DataAddr) (v : Nibble), s.memWrite a v = .ok t →
    t.memRead a = .ok v ∧ ∀ b : DataAddr, b ≠ a → t.memRead b = s.memRead b

/-- The parameters are fixed for a run and the program image is constant: no step changes them (10_state.md R39, R44, 20_memory.md R79). -/
def Obligations.ProgramNeverChanges : Prop :=
  ∀ s t : State, step s = .next t → t.params = s.params ∧ t.rom = s.rom

/-- The reset state has the invariant, under every set of parameters that obeys 00_scope.md R5, and under the default ones; PC is RESET_PC
and EIF is 0 (10_state.md R42, decision D17, log entries 3 and 6); no data cell and no stack entry has a value (R42; that an unwritten cell
has none is decision D33, log entry 2). That no program byte has a value is this model's choice: the image R42 calls given is loaded from
outside after this state (log entry 16), and a byte not loaded has no value (log entry 2). -/
def Obligations.InvariantAtReset : Prop :=
  State.reset.inv = true ∧ State.reset.pc = 0#14 ∧ State.reset.eif = false ∧
  ∀ p : Params, p.wf = true →
    (State.resetWith p).inv = true ∧ (State.resetWith p).pc.toNat = p.resetPc.toNat ∧ (State.resetWith p).eif = false ∧
    ∀ a : Nat, (State.resetWith p).ram.read a = none ∧ (State.resetWith p).stack.read a = none ∧
      (State.resetWith p).rom.read a = none

/-- Every step keeps the invariant: memories in their canonical form with no address that does not exist, every saved PC and the current one
a program address or the one just past the 13 bits, the read counter exact (20_memory.md R62, R67, 10_state.md R23, R24, R31). -/
def Obligations.InvariantKept : Prop :=
  ∀ s t : State, s.inv = true → step s = .next t → t.inv = true
end

