-- ==== Sys2Proof/Laws/Decode.lean ====
section
/-! SUPPORT. What the decoder does with the bytes after the instruction: nothing. -/

namespace Sys2Proof

/-- The same reading with further bytes after it. -/
def Decoded.extend (x : List Byte) : Decoded → Decoded
  | .instr i rest => .instr i (rest ++ x)
  | .needMore => .needMore
  | .reserved why bytes => .reserved why bytes

@[simp] theorem Decoded.extend_instr (x : List Byte) (i : Instr) (rest : List Byte) :
    (Decoded.instr i rest).extend x = .instr i (rest ++ x) := rfl

@[simp] theorem Decoded.extend_reserved (x : List Byte) (why : ReservedWhy) (bytes : List Byte) :
    (Decoded.reserved why bytes).extend x = .reserved why bytes := rfl

theorem withByte_append {k : Byte → List Byte → Decoded} (x : List Byte)
    (hk : ∀ b rest, k b rest ≠ .needMore → k b (rest ++ x) = (k b rest).extend x) (rest : List Byte)
    (h : withByte rest k ≠ .needMore) : withByte (rest ++ x) k = (withByte rest k).extend x := by
  cases rest with
  | nil => simp [withByte] at h
  | cons b rest => exact hk b rest h

theorem decodeSlbr_append (x : List Byte) (bank : BitVec 1) (b0 : Byte) (rest : List Byte)
    (h : decodeSlbr bank b0 rest ≠ .needMore) :
    decodeSlbr bank b0 (rest ++ x) = (decodeSlbr bank b0 rest).extend x := by
  refine withByte_append x (fun b1 rest1 h1 => ?_) rest h
  split at h1
  · rw [if_pos ‹_›, if_pos ‹_›]
    exact withByte_append x (fun _ _ _ => rfl) rest1 h1
  · rw [if_neg ‹_›, if_neg ‹_›]; rfl

theorem decodeExae_append (x : List Byte) (p : Params) (b0 : Byte) (rest : List Byte) :
    decodeExae p b0 (rest ++ x) = (decodeExae p b0 rest).extend x := by
  unfold decodeExae; split <;> rfl

theorem decodeTgs_append (x : List Byte) (p : Params) (b0 : Byte) (rest : List Byte) :
    decodeTgs p b0 (rest ++ x) = (decodeTgs p b0 rest).extend x := by
  unfold decodeTgs; split <;> rfl

theorem decodeGfOrSlbr_append (x : List Byte) (p : Params) (i : Instr) (b0 : Byte) (rest : List Byte)
    (h : decodeGfOrSlbr p i b0 rest ≠ .needMore) :
    decodeGfOrSlbr p i b0 (rest ++ x) = (decodeGfOrSlbr p i b0 rest).extend x := by
  unfold decodeGfOrSlbr at *
  split at h
  · rw [if_pos ‹_›, if_pos ‹_›]; rfl
  · rw [if_neg ‹_›, if_neg ‹_›]
    split at h
    · exact decodeSlbr_append x _ b0 rest h
    · rfl

theorem decodePair_append (x : List Byte) (mk : DataAddr → Instr) (b0 : Byte) (rest : List Byte)
    (h : decodePair mk b0 rest ≠ .needMore) : decodePair mk b0 (rest ++ x) = (decodePair mk b0 rest).extend x := by
  refine withByte_append x (fun b1 rest1 _ => ?_) rest h
  split <;> rfl

theorem decodeLatch_append (x : List Byte) (b0 b1 : Byte) (rest : List Byte) :
    decodeLatch b0 b1 (rest ++ x) = (decodeLatch b0 b1 rest).extend x := by
  unfold decodeLatch; dsimp only; split <;> rfl

theorem decodeBit_append (x : List Byte) (b0 b1 : Byte) (rest : List Byte) :
    decodeBit b0 b1 (rest ++ x) = (decodeBit b0 b1 rest).extend x := by
  unfold decodeBit; dsimp only; split <;> rfl

theorem decodePortBit_append (x : List Byte) (b0 b1 : Byte) (rest : List Byte) :
    decodePortBit b0 b1 (rest ++ x) = (decodePortBit b0 b1 rest).extend x := by
  unfold decodePortBit; dsimp only; split <;> (try split) <;> rfl

theorem decodeImmediate_append (x : List Byte) (b0 b1 : Byte) (rest : List Byte) :
    decodeImmediate b0 b1 (rest ++ x) = (decodeImmediate b0 b1 rest).extend x := by
  unfold decodeImmediate; dsimp only; split <;> rfl

theorem decodePort_append (x : List Byte) (b0 b1 : Byte) (rest : List Byte) :
    decodePort b0 b1 (rest ++ x) = (decodePort b0 b1 rest).extend x := by
  unfold decodePort; split
  · rfl
  · split <;> rfl

theorem decodeRow4_append (x : List Byte) (b0 : Byte) (rest : List Byte) (h : decodeRow4 b0 rest ≠ .needMore) :
    decodeRow4 b0 (rest ++ x) = (decodeRow4 b0 rest).extend x := by
  unfold decodeRow4 at *
  split at h
  case h_5 => exact decodePair_append x _ b0 rest h
  case h_7 => exact decodePair_append x _ b0 rest h
  all_goals first | rfl | exact withByte_append x (fun _ _ _ => rfl) rest h

theorem decodeRow5_append (x : List Byte) (p : Params) (b0 : Byte) (rest : List Byte) (h : decodeRow5 p b0 rest ≠ .needMore) :
    decodeRow5 p b0 (rest ++ x) = (decodeRow5 p b0 rest).extend x := by
  unfold decodeRow5 at *
  split at h
  all_goals first | rfl | exact decodeTgs_append x p b0 rest | exact decodeGfOrSlbr_append x p _ b0 rest h

theorem decodeRow6_append (x : List Byte) (b0 : Byte) (rest : List Byte) (h : decodeRow6 b0 rest ≠ .needMore) :
    decodeRow6 b0 (rest ++ x) = (decodeRow6 b0 rest).extend x := by
  unfold decodeRow6 at *
  split at h
  all_goals first
    | rfl
    | exact withByte_append x (fun _ _ _ => rfl) rest h
    | exact withByte_append x (fun b1 r _ => decodeLatch_append x b0 b1 r) rest h
    | exact withByte_append x (fun b1 r _ => decodeBit_append x b0 b1 r) rest h
    | exact withByte_append x (fun b1 r _ => decodePortBit_append x b0 b1 r) rest h
    | exact withByte_append x (fun b1 r _ => decodeImmediate_append x b0 b1 r) rest h
    | exact withByte_append x (fun b1 r _ => decodePort_append x b0 b1 r) rest h

theorem decodeRow7_append (x : List Byte) (p : Params) (b0 : Byte) (rest : List Byte) (h : decodeRow7 p b0 rest ≠ .needMore) :
    decodeRow7 p b0 (rest ++ x) = (decodeRow7 p b0 rest).extend x := by
  unfold decodeRow7 at *
  split at h
  all_goals first | rfl | exact decodeExae_append x p b0 rest

theorem decodeRowF_append (x : List Byte) (b0 : Byte) (rest : List Byte) :
    decodeRowF b0 (rest ++ x) = (decodeRowF b0 rest).extend x := by
  unfold decodeRowF; dsimp only; split <;> rfl

/-- Once the bytes are an instruction or a reserved encoding, bytes after them change nothing. -/
theorem decode_append (p : Params) (bs x : List Byte) (h : decode p bs ≠ .needMore) :
    decode p (bs ++ x) = (decode p bs).extend x := by
  cases bs with
  | nil => simp [decode] at h
  | cons b0 rest =>
    simp only [decode, List.cons_append] at *
    unfold decodeFirst at *
    split at h
    all_goals first
      | rfl
      | exact decodeRow4_append x b0 rest h
      | exact decodeRow5_append x p b0 rest h
      | exact decodeRow6_append x b0 rest h
      | exact decodeRow7_append x p b0 rest h
      | exact decodeRowF_append x b0 rest
      | exact withByte_append x (fun _ _ _ => rfl) rest h

/-- The high and the low nibble make the byte. -/
theorem hi4_append_lo4 (b : Byte) : (hi4 b ++ lo4 b : Byte) = b := by revert b; decide

theorem hi4_append (a b : Nibble) : hi4 (a ++ b : Byte) = a := by revert a b; decide

theorem lo4_append (a b : Nibble) : lo4 (a ++ b : Byte) = b := by revert a b; decide

/-! The two-byte rows: what decides the instruction after each first byte. -/

theorem decode_48 (p : Params) (b : Byte) (rest : List Byte) :
    decode p (0x48#8 :: b :: rest) = .instr (.std (hi4 b) (lo4 b)) rest := rfl
theorem decode_49 (p : Params) (b : Byte) (rest : List Byte) :
    decode p (0x49#8 :: b :: rest) = .instr (.add (hi4 b) (lo4 b)) rest := rfl
theorem decode_4A (p : Params) (b : Byte) (rest : List Byte) :
    decode p (0x4A#8 :: b :: rest) = .instr (.out (hi4 b) (lo4 b)) rest := rfl
theorem decode_4B (p : Params) (b : Byte) (rest : List Byte) :
    decode p (0x4B#8 :: b :: rest) = .instr (.cmp (hi4 b) (lo4 b)) rest := rfl
theorem decode_4C (p : Params) (x : Byte) (rest : List Byte) :
    decode p (0x4C#8 :: x :: rest) = if pairAligned x then .instr (.exhl x) rest else .reserved .unalignedPair [0x4C#8, x] := rfl
theorem decode_4E (p : Params) (x : Byte) (rest : List Byte) :
    decode p (0x4E#8 :: x :: rest) = if pairAligned x then .instr (.ldhl x) rest else .reserved .unalignedPair [0x4E#8, x] := rfl
theorem decode_63 (p : Params) (b : Byte) (rest : List Byte) :
    decode p (0x63#8 :: b :: rest) = decodeLatch 0x63#8 b rest := rfl
theorem decode_68 (p : Params) (x : Byte) (rest : List Byte) : decode p (0x68#8 :: x :: rest) = .instr (.exa x) rest := rfl
theorem decode_69 (p : Params) (x : Byte) (rest : List Byte) :
    decode p (0x69#8 :: x :: rest) = .instr (decodeStore x) rest := rfl
theorem decode_6A (p : Params) (x : Byte) (rest : List Byte) :
    decode p (0x6A#8 :: x :: rest) = .instr (decodeLoad x) rest := rfl
theorem decode_6B (p : Params) (x : Byte) (rest : List Byte) : decode p (0x6B#8 :: x :: rest) = .instr (.cmpa x) rest := rfl
theorem decode_6C (p : Params) (b : Byte) (rest : List Byte) :
    decode p (0x6C#8 :: b :: rest) = decodeBit 0x6C#8 b rest := rfl
theorem decode_6D (p : Params) (b : Byte) (rest : List Byte) :
    decode p (0x6D#8 :: b :: rest) = decodePortBit 0x6D#8 b rest := rfl
theorem decode_6E (p : Params) (b : Byte) (rest : List Byte) :
    decode p (0x6E#8 :: b :: rest) = decodeImmediate 0x6E#8 b rest := rfl
theorem decode_6F (p : Params) (b : Byte) (rest : List Byte) :
    decode p (0x6F#8 :: b :: rest) = decodePort 0x6F#8 b rest := rfl

/-- What follows 6Ah and 69h: outside the ten window addresses, LDA and STA. -/
theorem decodeLoad_of_not_window {x : DataAddr} (h : isWindowAddr x = false) : decodeLoad x = .lda x := by
  revert x; decide

theorem decodeStore_of_not_window {x : DataAddr} (h : isWindowAddr x = false) : decodeStore x = .sta x := by
  revert x; decide

/-! What the decoder consumes. -/

/-- A reading of `bs` accounts for its bytes: an instruction takes as many as its length says and leaves the rest; a reserved reading
reports the one or two bytes it read; at most two bytes leave the instruction open. -/
def Decoded.accountsFor (bs : List Byte) : Decoded → Prop
  | .instr i rest => ∃ pre, bs = pre ++ rest ∧ pre.length = i.length
  | .needMore => bs.length ≤ 2
  | .reserved _ bytes => ∃ rest, bs = bytes ++ rest ∧ bytes ≠ [] ∧ bytes.length ≤ 2

theorem Decoded.accountsFor_instr {bs pre rest : List Byte} {i : Instr} (h : bs = pre ++ rest) (hl : pre.length = i.length) :
    (Decoded.instr i rest).accountsFor bs := ⟨pre, h, hl⟩

theorem Decoded.accountsFor_one {b : Byte} {rest : List Byte} {i : Instr} (h : i.length = 1) :
    (Decoded.instr i rest).accountsFor (b :: rest) := ⟨[b], rfl, h.symm⟩

theorem Decoded.accountsFor_two {b c : Byte} {rest : List Byte} {i : Instr} (h : i.length = 2) :
    (Decoded.instr i rest).accountsFor (b :: c :: rest) := ⟨[b, c], rfl, h.symm⟩

theorem Decoded.accountsFor_reserved_one {b : Byte} {rest : List Byte} {why : ReservedWhy} :
    (Decoded.reserved why [b]).accountsFor (b :: rest) := ⟨rest, rfl, by simp, by simp⟩

theorem Decoded.accountsFor_reserved_two {b c : Byte} {rest : List Byte} {why : ReservedWhy} :
    (Decoded.reserved why [b, c]).accountsFor (b :: c :: rest) := ⟨rest, rfl, by simp, by simp⟩

theorem withByte_accounts {b : Byte} {rest : List Byte} {k : Byte → List Byte → Decoded}
    (h : ∀ c rest', rest = c :: rest' → (k c rest').accountsFor (b :: c :: rest')) :
    (withByte rest k).accountsFor (b :: rest) := by
  cases rest with
  | nil => simp [withByte, Decoded.accountsFor]
  | cons c rest' => exact h c rest' rfl

theorem decodeSlbr_accounts (bank : BitVec 1) (b : Byte) (rest : List Byte) : (decodeSlbr bank b rest).accountsFor (b :: rest) := by
  refine withByte_accounts fun c rest' _ => ?_
  split
  · cases rest' with
    | nil => simp [withByte, Decoded.accountsFor]
    | cons d rest'' => exact ⟨[b, c, d], rfl, rfl⟩
  · exact Decoded.accountsFor_reserved_two

theorem decodeExae_accounts (p : Params) (b : Byte) (rest : List Byte) : (decodeExae p b rest).accountsFor (b :: rest) := by
  unfold decodeExae
  split
  · exact Decoded.accountsFor_one rfl
  · exact Decoded.accountsFor_reserved_one

theorem decodeTgs_accounts (p : Params) (b : Byte) (rest : List Byte) : (decodeTgs p b rest).accountsFor (b :: rest) := by
  unfold decodeTgs
  split
  · exact Decoded.accountsFor_one rfl
  · exact Decoded.accountsFor_reserved_one

theorem decodeGfOrSlbr_accounts (p : Params) (i : Instr) (b : Byte) (rest : List Byte) (h : i.length = 1) :
    (decodeGfOrSlbr p i b rest).accountsFor (b :: rest) := by
  unfold decodeGfOrSlbr
  split
  · exact Decoded.accountsFor_one h
  · split
    · exact decodeSlbr_accounts _ b rest
    · exact Decoded.accountsFor_reserved_one

theorem decodeStore_length (x : DataAddr) : (decodeStore x).length = 2 := by
  unfold decodeStore; split <;> rfl

theorem decodeLoad_length (x : DataAddr) : (decodeLoad x).length = 2 := by
  unfold decodeLoad; split <;> rfl

theorem decodeLatch_accounts (b c : Byte) (rest : List Byte) : (decodeLatch b c rest).accountsFor (b :: c :: rest) := by
  unfold decodeLatch; dsimp only
  split <;> first | exact Decoded.accountsFor_two rfl | exact Decoded.accountsFor_reserved_two

theorem decodeBit_accounts (b c : Byte) (rest : List Byte) : (decodeBit b c rest).accountsFor (b :: c :: rest) := by
  unfold decodeBit; dsimp only
  split <;> first | exact Decoded.accountsFor_two rfl | exact Decoded.accountsFor_reserved_two

theorem decodePortBit_accounts (b c : Byte) (rest : List Byte) : (decodePortBit b c rest).accountsFor (b :: c :: rest) := by
  unfold decodePortBit; dsimp only
  split <;> (try split) <;> first | exact Decoded.accountsFor_two rfl | exact Decoded.accountsFor_reserved_two

theorem decodeImmediate_accounts (b c : Byte) (rest : List Byte) : (decodeImmediate b c rest).accountsFor (b :: c :: rest) := by
  unfold decodeImmediate; dsimp only
  split <;> first | exact Decoded.accountsFor_two rfl | exact Decoded.accountsFor_reserved_two

theorem decodePort_accounts (b c : Byte) (rest : List Byte) : (decodePort b c rest).accountsFor (b :: c :: rest) := by
  unfold decodePort
  split
  · exact Decoded.accountsFor_two rfl
  · split <;> first | exact Decoded.accountsFor_two rfl | exact Decoded.accountsFor_reserved_two

theorem decodePair_accounts (mk : DataAddr → Instr) (b : Byte) (rest : List Byte) (h : ∀ x, (mk x).length = 2) :
    (decodePair mk b rest).accountsFor (b :: rest) := by
  refine withByte_accounts fun c rest' _ => ?_
  split
  · exact Decoded.accountsFor_two (h c)
  · exact Decoded.accountsFor_reserved_two

theorem decodeRow4_accounts (b : Byte) (rest : List Byte) : (decodeRow4 b rest).accountsFor (b :: rest) := by
  unfold decodeRow4
  split <;> first
    | exact Decoded.accountsFor_one rfl
    | exact decodePair_accounts _ b rest fun _ => rfl
    | exact withByte_accounts fun _ _ _ => Decoded.accountsFor_two rfl

theorem decodeRow5_accounts (p : Params) (b : Byte) (rest : List Byte) : (decodeRow5 p b rest).accountsFor (b :: rest) := by
  unfold decodeRow5
  split <;> first
    | exact Decoded.accountsFor_one rfl
    | exact decodeTgs_accounts p b rest
    | exact decodeGfOrSlbr_accounts p _ b rest rfl

theorem decodeRow6_accounts (b : Byte) (rest : List Byte) : (decodeRow6 b rest).accountsFor (b :: rest) := by
  unfold decodeRow6
  split <;> first
    | exact Decoded.accountsFor_one rfl
    | exact withByte_accounts fun _ _ _ => Decoded.accountsFor_two rfl
    | exact withByte_accounts fun c rest' _ => decodeLatch_accounts b c rest'
    | exact withByte_accounts fun c rest' _ => decodeBit_accounts b c rest'
    | exact withByte_accounts fun c rest' _ => decodePortBit_accounts b c rest'
    | exact withByte_accounts fun c rest' _ => decodeImmediate_accounts b c rest'
    | exact withByte_accounts fun c rest' _ => decodePort_accounts b c rest'
    | exact withByte_accounts fun c _ _ => Decoded.accountsFor_two (decodeStore_length c)
    | exact withByte_accounts fun c _ _ => Decoded.accountsFor_two (decodeLoad_length c)

theorem decodeRow7_accounts (p : Params) (b : Byte) (rest : List Byte) : (decodeRow7 p b rest).accountsFor (b :: rest) := by
  unfold decodeRow7
  split <;> first | exact Decoded.accountsFor_one rfl | exact decodeExae_accounts p b rest

theorem decodeRowF_accounts (b : Byte) (rest : List Byte) : (decodeRowF b rest).accountsFor (b :: rest) := by
  unfold decodeRowF; dsimp only; split <;> exact Decoded.accountsFor_one rfl

/-- The decoder reads no more than the instruction, and reports what it read. -/
theorem decode_accounts (p : Params) (bs : List Byte) : (decode p bs).accountsFor bs := by
  cases bs with
  | nil => exact Nat.zero_le 2
  | cons b rest =>
    show (decodeFirst p b rest).accountsFor (b :: rest)
    unfold decodeFirst
    split <;> first
      | exact Decoded.accountsFor_one rfl
      | exact decodeRow4_accounts b rest
      | exact decodeRow5_accounts p b rest
      | exact decodeRow6_accounts b rest
      | exact decodeRow7_accounts p b rest
      | exact decodeRowF_accounts b rest
      | exact withByte_accounts fun _ _ _ => Decoded.accountsFor_two rfl

/-- The lengths add up. -/
theorem decode_length {p : Params} {bs rest : List Byte} {i : Instr} (h : decode p bs = .instr i rest) :
    bs.length = i.length + rest.length := by
  have ha := decode_accounts p bs
  rw [h] at ha
  obtain ⟨pre, rfl, hl⟩ := ha
  simp [hl]

/-- A shorter beginning of an instruction's bytes asks for more. -/
theorem decode_needMore_of_instr {p : Params} {bs x : List Byte} {i : Instr} (hx : x ≠ [])
    (h : decode p (bs ++ x) = .instr i []) : decode p bs = .needMore := by
  by_contra hn
  rw [decode_append p bs x hn] at h
  cases hd : decode p bs <;> simp_all [Decoded.extend]

/-- A shorter beginning of the bytes of a reserved reading asks for more. -/
theorem decode_needMore_of_reserved {p : Params} {bs x : List Byte} {why : ReservedWhy} (hx : x ≠ [])
    (h : decode p (bs ++ x) = .reserved why (bs ++ x)) : decode p bs = .needMore := by
  by_contra hn
  rw [decode_append p bs x hn] at h
  cases hd : decode p bs with
  | needMore => exact hn hd
  | instr i rest => simp [hd] at h
  | reserved w bytes =>
    have ha := decode_accounts p bs
    rw [hd] at ha h
    obtain ⟨rest, hr, -, -⟩ := ha
    simp only [Decoded.extend_reserved, Decoded.reserved.injEq] at h
    have h1 := congrArg List.length hr
    have h2 := congrArg List.length h.2
    have h3 := List.length_pos_iff.2 hx
    simp only [List.length_append] at h1 h2
    omega

/-- A shorter beginning of bytes that ask for more asks for more. -/
theorem decode_needMore_of_needMore {p : Params} {bs x : List Byte} (h : decode p (bs ++ x) = .needMore) : decode p bs = .needMore := by
  by_contra hn
  rw [decode_append p bs x hn] at h
  cases hd : decode p bs <;> simp_all [Decoded.extend]

/-- Only the first byte, or the first two of SLBR, leave the instruction open. -/
theorem decode_needMore_length {p : Params} {bs : List Byte} (h : decode p bs = .needMore) : bs.length ≤ 2 := by
  have ha := decode_accounts p bs
  rwa [h] at ha

/-- No instruction has more than three bytes (30_encoding.md R90). -/
theorem Instr.length_le_three (i : Instr) : 1 ≤ i.length ∧ i.length ≤ 3 := by
  cases i <;> exact ⟨Nat.le_of_ble_eq_true rfl, Nat.le_of_ble_eq_true rfl⟩

end Sys2Proof
end

