-- ==== Sys2Proof/Laws/Memory.lean ====
section
/-! SUPPORT. The laws of memory: a read after a write, and the canonical form kept by every write. They hold of every list, canonical or
not, but for the form itself. -/

namespace Sys2Proof.Machine

@[simp] theorem Memory.read_nil {α : Type} (a : Nat) : Memory.read ([] : Memory α) a = none := rfl

theorem Memory.read_cons {α : Type} (b : Nat) (v : α) (m : Memory α) (a : Nat) :
    Memory.read ((b, v) :: m) a = if a = b then some v else Memory.read m a := rfl

@[simp] theorem Memory.read_write_same {α : Type} (m : Memory α) (a : Nat) (v : α) :
    (m.write a v).read a = some v := by
  induction m with
  | nil => simp [Memory.write, Memory.read_cons]
  | cons c m ih =>
    obtain ⟨b, w⟩ := c
    simp only [Memory.write]
    split
    · simp [Memory.read_cons]
    · split
      · simp [Memory.read_cons]
      · simp [Memory.read_cons, *]

theorem Memory.read_write_other {α : Type} (m : Memory α) (a : Nat) (v : α) {b : Nat} (h : b ≠ a) :
    (m.write a v).read b = m.read b := by
  induction m with
  | nil => simp [Memory.write, Memory.read_cons, h]
  | cons c m ih =>
    obtain ⟨d, w⟩ := c
    simp only [Memory.write]
    split
    · simp [Memory.read_cons, h]
    · split
      · next he => subst he; simp [Memory.read_cons, h]
      · simp [Memory.read_cons, ih]

/-- A read after a write, whatever the two addresses. -/
theorem Memory.read_write {α : Type} (m : Memory α) (a : Nat) (v : α) (b : Nat) :
    (m.write a v).read b = if b = a then some v else m.read b := by
  by_cases h : b = a
  · subst h; simp
  · simp [h, Memory.read_write_other]

theorem Memory.mem_write {α : Type} {m : Memory α} {a : Nat} {v : α} {c : Nat × α} (h : c ∈ m.write a v) :
    c = (a, v) ∨ c ∈ m := by
  induction m with
  | nil => simpa [Memory.write] using h
  | cons d m ih =>
    obtain ⟨b, w⟩ := d
    simp only [Memory.write] at h
    split at h
    · simpa using h
    · split at h
      · simp only [List.mem_cons] at h ⊢
        tauto
      · simp only [List.mem_cons] at h ⊢
        rcases h with h | h
        · exact .inr (.inl h)
        · rcases ih h with h | h
          · exact .inl h
          · exact .inr (.inr h)

theorem Memory.wf_iff {α : Type} (m : Memory α) : m.wf = true ↔ m.Pairwise fun c d => c.1 < d.1 := by
  simp [Memory.wf, List.pairwise_map]

/-- Every write keeps the canonical form. -/
theorem Memory.wf_write {α : Type} (m : Memory α) (a : Nat) (v : α) (h : m.wf = true) : (m.write a v).wf = true := by
  rw [Memory.wf_iff] at h ⊢
  induction m with
  | nil => simp [Memory.write]
  | cons c m ih =>
    obtain ⟨b, w⟩ := c
    have hm := (List.pairwise_cons.1 h).2
    have hb : ∀ d ∈ m, b < d.1 := (List.pairwise_cons.1 h).1
    simp only [Memory.write]
    split
    · next hlt =>
      refine List.pairwise_cons.2 ⟨?_, h⟩
      intro d hd
      rcases List.mem_cons.1 hd with rfl | hd
      · exact hlt
      · exact Nat.lt_trans hlt (hb d hd)
    · split
      · next he => subst he; exact List.pairwise_cons.2 ⟨hb, hm⟩
      · next hge hne =>
        refine List.pairwise_cons.2 ⟨?_, ih hm⟩
        intro d hd
        rcases Memory.mem_write hd with rfl | hd
        · exact lt_of_le_of_ne (Nat.le_of_not_lt hge) (Ne.symm hne)
        · exact hb d hd

/-- A write at a listed address keeps the bound on the addresses. -/
theorem Memory.below_write {α : Type} (m : Memory α) (a : Nat) (v : α) {n : Nat} (ha : a < n)
    (h : m.below n = true) : (m.write a v).below n = true := by
  simp only [Memory.below, List.all_eq_true, decide_eq_true_eq] at h ⊢
  intro c hc
  rcases Memory.mem_write hc with rfl | hc
  · exact ha
  · exact h c hc

@[simp] theorem Memory.wf_nil {α : Type} : Memory.wf ([] : Memory α) = true := rfl

@[simp] theorem Memory.below_nil {α : Type} (n : Nat) : Memory.below ([] : Memory α) n = true := rfl

theorem Memory.mem_of_read {α : Type} {m : Memory α} {a : Nat} {v : α} (h : m.read a = some v) : (a, v) ∈ m := by
  induction m with
  | nil => simp at h
  | cons c m ih =>
    obtain ⟨b, w⟩ := c
    rw [Memory.read_cons] at h
    split at h
    · next he => cases h; subst he; simp
    · exact List.mem_cons_of_mem _ (ih h)

theorem Memory.read_lt {α : Type} {m : Memory α} {a b : Nat} (h : ∀ c ∈ m, b < c.1) (hab : a ≤ b) : m.read a = none := by
  induction m with
  | nil => rfl
  | cons c m ih =>
    obtain ⟨d, w⟩ := c
    have hd : b < d := h (d, w) (by simp)
    rw [Memory.read_cons, if_neg (by omega)]
    exact ih fun e he => h e (by simp [he])

/-- Equal memories are equal data: two memories in the canonical form that read alike everywhere are the same list. -/
theorem Memory.ext_of_wf {α : Type} {m n : Memory α} (hm : m.wf = true) (hn : n.wf = true)
    (h : ∀ a, m.read a = n.read a) : m = n := by
  rw [Memory.wf_iff] at hm hn
  induction m generalizing n with
  | nil =>
    cases n with
    | nil => rfl
    | cons d n => obtain ⟨b, w⟩ := d; simpa [Memory.read_cons] using h b
  | cons c m ih =>
    obtain ⟨a, v⟩ := c
    obtain ⟨ha, hm⟩ := List.pairwise_cons.1 hm
    cases n with
    | nil => simpa [Memory.read_cons] using h a
    | cons d n =>
      obtain ⟨b, w⟩ := d
      obtain ⟨hb, hn'⟩ := List.pairwise_cons.1 hn
      have hab : a = b := by
        rcases Nat.lt_trichotomy a b with hlt | he | hgt
        · have := h a
          rw [Memory.read_cons, if_pos rfl, Memory.read_cons, if_neg (by omega),
            Memory.read_lt hb (by omega)] at this
          cases this
        · exact he
        · have := h b
          rw [Memory.read_cons, if_neg (by omega), Memory.read_cons, if_pos rfl,
            Memory.read_lt ha (by omega)] at this
          cases this
      subst hab
      have hvw : v = w := by simpa [Memory.read_cons] using h a
      subst hvw
      refine congrArg _ (ih hm hn' fun e => ?_)
      by_cases he : e = a
      · subst he; rw [Memory.read_lt ha (le_refl _), Memory.read_lt hb (le_refl _)]
      · simpa [Memory.read_cons, he] using h e

/-- A write makes exactly the claims' `writtenAt`. -/
theorem Memory.write_spec {α : Type} (m : Memory α) (a : Nat) (v : α) :
    (m.write a v).read a = some v ∧ ∀ b : Nat, b ≠ a → (m.write a v).read b = m.read b :=
  ⟨Memory.read_write_same m a v, fun _ h => Memory.read_write_other m a v h⟩

end Sys2Proof.Machine
end

