-- ==== Sys2Proof/Laws/State.lean ====
section
/-! SUPPORT. What each field reads as after each update of the state, so that no proof unfolds a record update. -/

namespace Sys2Proof.Machine

@[simp] theorem State.setAcc_acc (s : State) (v : Nibble) : (s.setAcc v).acc = v := rfl
@[simp] theorem State.setAcc_hr (s : State) (v : Nibble) : (s.setAcc v).hr = s.hr := rfl
@[simp] theorem State.setAcc_lr (s : State) (v : Nibble) : (s.setAcc v).lr = s.lr := rfl
@[simp] theorem State.setAcc_pc (s : State) (v : Nibble) : (s.setAcc v).pc = s.pc := rfl
@[simp] theorem State.setAcc_cf (s : State) (v : Nibble) : (s.setAcc v).cf = s.cf := rfl
@[simp] theorem State.setAcc_zf (s : State) (v : Nibble) : (s.setAcc v).zf = s.zf := rfl
@[simp] theorem State.setAcc_sf (s : State) (v : Nibble) : (s.setAcc v).sf = s.sf := rfl
@[simp] theorem State.setAcc_gf (s : State) (v : Nibble) : (s.setAcc v).gf = s.gf := rfl
@[simp] theorem State.setAcc_sp (s : State) (v : Nibble) : (s.setAcc v).sp = s.sp := rfl
@[simp] theorem State.setAcc_stack (s : State) (v : Nibble) : (s.setAcc v).stack = s.stack := rfl
@[simp] theorem State.setAcc_dp (s : State) (v : Nibble) : (s.setAcc v).dp = s.dp := rfl
@[simp] theorem State.setAcc_ta (s : State) (v : Nibble) : (s.setAcc v).ta = s.ta := rfl
@[simp] theorem State.setAcc_tb (s : State) (v : Nibble) : (s.setAcc v).tb = s.tb := rfl
@[simp] theorem State.setAcc_eif (s : State) (v : Nibble) : (s.setAcc v).eif = s.eif := rfl
@[simp] theorem State.setAcc_eir (s : State) (v : Nibble) : (s.setAcc v).eir = s.eir := rfl
@[simp] theorem State.setAcc_il (s : State) (v : Nibble) : (s.setAcc v).il = s.il := rfl
@[simp] theorem State.setAcc_ram (s : State) (v : Nibble) : (s.setAcc v).ram = s.ram := rfl
@[simp] theorem State.setAcc_rom (s : State) (v : Nibble) : (s.setAcc v).rom = s.rom := rfl
@[simp] theorem State.setAcc_portOut (s : State) (v : Nibble) : (s.setAcc v).portOut = s.portOut := rfl
@[simp] theorem State.setAcc_events (s : State) (v : Nibble) : (s.setAcc v).events = s.events := rfl
@[simp] theorem State.setAcc_portReads (s : State) (v : Nibble) : (s.setAcc v).portReads = s.portReads := rfl
@[simp] theorem State.setAcc_agent (s : State) (v : Nibble) : (s.setAcc v).agent = s.agent := rfl
@[simp] theorem State.setAcc_params (s : State) (v : Nibble) : (s.setAcc v).params = s.params := rfl

@[simp] theorem State.setHr_acc (s : State) (v : Nibble) : (s.setHr v).acc = s.acc := rfl
@[simp] theorem State.setHr_hr (s : State) (v : Nibble) : (s.setHr v).hr = v := rfl
@[simp] theorem State.setHr_lr (s : State) (v : Nibble) : (s.setHr v).lr = s.lr := rfl
@[simp] theorem State.setHr_pc (s : State) (v : Nibble) : (s.setHr v).pc = s.pc := rfl
@[simp] theorem State.setHr_cf (s : State) (v : Nibble) : (s.setHr v).cf = s.cf := rfl
@[simp] theorem State.setHr_zf (s : State) (v : Nibble) : (s.setHr v).zf = s.zf := rfl
@[simp] theorem State.setHr_sf (s : State) (v : Nibble) : (s.setHr v).sf = s.sf := rfl
@[simp] theorem State.setHr_gf (s : State) (v : Nibble) : (s.setHr v).gf = s.gf := rfl
@[simp] theorem State.setHr_sp (s : State) (v : Nibble) : (s.setHr v).sp = s.sp := rfl
@[simp] theorem State.setHr_stack (s : State) (v : Nibble) : (s.setHr v).stack = s.stack := rfl
@[simp] theorem State.setHr_dp (s : State) (v : Nibble) : (s.setHr v).dp = s.dp := rfl
@[simp] theorem State.setHr_ta (s : State) (v : Nibble) : (s.setHr v).ta = s.ta := rfl
@[simp] theorem State.setHr_tb (s : State) (v : Nibble) : (s.setHr v).tb = s.tb := rfl
@[simp] theorem State.setHr_eif (s : State) (v : Nibble) : (s.setHr v).eif = s.eif := rfl
@[simp] theorem State.setHr_eir (s : State) (v : Nibble) : (s.setHr v).eir = s.eir := rfl
@[simp] theorem State.setHr_il (s : State) (v : Nibble) : (s.setHr v).il = s.il := rfl
@[simp] theorem State.setHr_ram (s : State) (v : Nibble) : (s.setHr v).ram = s.ram := rfl
@[simp] theorem State.setHr_rom (s : State) (v : Nibble) : (s.setHr v).rom = s.rom := rfl
@[simp] theorem State.setHr_portOut (s : State) (v : Nibble) : (s.setHr v).portOut = s.portOut := rfl
@[simp] theorem State.setHr_events (s : State) (v : Nibble) : (s.setHr v).events = s.events := rfl
@[simp] theorem State.setHr_portReads (s : State) (v : Nibble) : (s.setHr v).portReads = s.portReads := rfl
@[simp] theorem State.setHr_agent (s : State) (v : Nibble) : (s.setHr v).agent = s.agent := rfl
@[simp] theorem State.setHr_params (s : State) (v : Nibble) : (s.setHr v).params = s.params := rfl

@[simp] theorem State.setLr_acc (s : State) (v : Nibble) : (s.setLr v).acc = s.acc := rfl
@[simp] theorem State.setLr_hr (s : State) (v : Nibble) : (s.setLr v).hr = s.hr := rfl
@[simp] theorem State.setLr_lr (s : State) (v : Nibble) : (s.setLr v).lr = v := rfl
@[simp] theorem State.setLr_pc (s : State) (v : Nibble) : (s.setLr v).pc = s.pc := rfl
@[simp] theorem State.setLr_cf (s : State) (v : Nibble) : (s.setLr v).cf = s.cf := rfl
@[simp] theorem State.setLr_zf (s : State) (v : Nibble) : (s.setLr v).zf = s.zf := rfl
@[simp] theorem State.setLr_sf (s : State) (v : Nibble) : (s.setLr v).sf = s.sf := rfl
@[simp] theorem State.setLr_gf (s : State) (v : Nibble) : (s.setLr v).gf = s.gf := rfl
@[simp] theorem State.setLr_sp (s : State) (v : Nibble) : (s.setLr v).sp = s.sp := rfl
@[simp] theorem State.setLr_stack (s : State) (v : Nibble) : (s.setLr v).stack = s.stack := rfl
@[simp] theorem State.setLr_dp (s : State) (v : Nibble) : (s.setLr v).dp = s.dp := rfl
@[simp] theorem State.setLr_ta (s : State) (v : Nibble) : (s.setLr v).ta = s.ta := rfl
@[simp] theorem State.setLr_tb (s : State) (v : Nibble) : (s.setLr v).tb = s.tb := rfl
@[simp] theorem State.setLr_eif (s : State) (v : Nibble) : (s.setLr v).eif = s.eif := rfl
@[simp] theorem State.setLr_eir (s : State) (v : Nibble) : (s.setLr v).eir = s.eir := rfl
@[simp] theorem State.setLr_il (s : State) (v : Nibble) : (s.setLr v).il = s.il := rfl
@[simp] theorem State.setLr_ram (s : State) (v : Nibble) : (s.setLr v).ram = s.ram := rfl
@[simp] theorem State.setLr_rom (s : State) (v : Nibble) : (s.setLr v).rom = s.rom := rfl
@[simp] theorem State.setLr_portOut (s : State) (v : Nibble) : (s.setLr v).portOut = s.portOut := rfl
@[simp] theorem State.setLr_events (s : State) (v : Nibble) : (s.setLr v).events = s.events := rfl
@[simp] theorem State.setLr_portReads (s : State) (v : Nibble) : (s.setLr v).portReads = s.portReads := rfl
@[simp] theorem State.setLr_agent (s : State) (v : Nibble) : (s.setLr v).agent = s.agent := rfl
@[simp] theorem State.setLr_params (s : State) (v : Nibble) : (s.setLr v).params = s.params := rfl

@[simp] theorem State.setPc_acc (s : State) (v : CodeAddr) : (s.setPc v).acc = s.acc := rfl
@[simp] theorem State.setPc_hr (s : State) (v : CodeAddr) : (s.setPc v).hr = s.hr := rfl
@[simp] theorem State.setPc_lr (s : State) (v : CodeAddr) : (s.setPc v).lr = s.lr := rfl
@[simp] theorem State.setPc_pc (s : State) (v : CodeAddr) : (s.setPc v).pc = v := rfl
@[simp] theorem State.setPc_cf (s : State) (v : CodeAddr) : (s.setPc v).cf = s.cf := rfl
@[simp] theorem State.setPc_zf (s : State) (v : CodeAddr) : (s.setPc v).zf = s.zf := rfl
@[simp] theorem State.setPc_sf (s : State) (v : CodeAddr) : (s.setPc v).sf = s.sf := rfl
@[simp] theorem State.setPc_gf (s : State) (v : CodeAddr) : (s.setPc v).gf = s.gf := rfl
@[simp] theorem State.setPc_sp (s : State) (v : CodeAddr) : (s.setPc v).sp = s.sp := rfl
@[simp] theorem State.setPc_stack (s : State) (v : CodeAddr) : (s.setPc v).stack = s.stack := rfl
@[simp] theorem State.setPc_dp (s : State) (v : CodeAddr) : (s.setPc v).dp = s.dp := rfl
@[simp] theorem State.setPc_ta (s : State) (v : CodeAddr) : (s.setPc v).ta = s.ta := rfl
@[simp] theorem State.setPc_tb (s : State) (v : CodeAddr) : (s.setPc v).tb = s.tb := rfl
@[simp] theorem State.setPc_eif (s : State) (v : CodeAddr) : (s.setPc v).eif = s.eif := rfl
@[simp] theorem State.setPc_eir (s : State) (v : CodeAddr) : (s.setPc v).eir = s.eir := rfl
@[simp] theorem State.setPc_il (s : State) (v : CodeAddr) : (s.setPc v).il = s.il := rfl
@[simp] theorem State.setPc_ram (s : State) (v : CodeAddr) : (s.setPc v).ram = s.ram := rfl
@[simp] theorem State.setPc_rom (s : State) (v : CodeAddr) : (s.setPc v).rom = s.rom := rfl
@[simp] theorem State.setPc_portOut (s : State) (v : CodeAddr) : (s.setPc v).portOut = s.portOut := rfl
@[simp] theorem State.setPc_events (s : State) (v : CodeAddr) : (s.setPc v).events = s.events := rfl
@[simp] theorem State.setPc_portReads (s : State) (v : CodeAddr) : (s.setPc v).portReads = s.portReads := rfl
@[simp] theorem State.setPc_agent (s : State) (v : CodeAddr) : (s.setPc v).agent = s.agent := rfl
@[simp] theorem State.setPc_params (s : State) (v : CodeAddr) : (s.setPc v).params = s.params := rfl

@[simp] theorem State.setCf_acc (s : State) (v : Bool) : (s.setCf v).acc = s.acc := rfl
@[simp] theorem State.setCf_hr (s : State) (v : Bool) : (s.setCf v).hr = s.hr := rfl
@[simp] theorem State.setCf_lr (s : State) (v : Bool) : (s.setCf v).lr = s.lr := rfl
@[simp] theorem State.setCf_pc (s : State) (v : Bool) : (s.setCf v).pc = s.pc := rfl
@[simp] theorem State.setCf_cf (s : State) (v : Bool) : (s.setCf v).cf = v := rfl
@[simp] theorem State.setCf_zf (s : State) (v : Bool) : (s.setCf v).zf = s.zf := rfl
@[simp] theorem State.setCf_sf (s : State) (v : Bool) : (s.setCf v).sf = s.sf := rfl
@[simp] theorem State.setCf_gf (s : State) (v : Bool) : (s.setCf v).gf = s.gf := rfl
@[simp] theorem State.setCf_sp (s : State) (v : Bool) : (s.setCf v).sp = s.sp := rfl
@[simp] theorem State.setCf_stack (s : State) (v : Bool) : (s.setCf v).stack = s.stack := rfl
@[simp] theorem State.setCf_dp (s : State) (v : Bool) : (s.setCf v).dp = s.dp := rfl
@[simp] theorem State.setCf_ta (s : State) (v : Bool) : (s.setCf v).ta = s.ta := rfl
@[simp] theorem State.setCf_tb (s : State) (v : Bool) : (s.setCf v).tb = s.tb := rfl
@[simp] theorem State.setCf_eif (s : State) (v : Bool) : (s.setCf v).eif = s.eif := rfl
@[simp] theorem State.setCf_eir (s : State) (v : Bool) : (s.setCf v).eir = s.eir := rfl
@[simp] theorem State.setCf_il (s : State) (v : Bool) : (s.setCf v).il = s.il := rfl
@[simp] theorem State.setCf_ram (s : State) (v : Bool) : (s.setCf v).ram = s.ram := rfl
@[simp] theorem State.setCf_rom (s : State) (v : Bool) : (s.setCf v).rom = s.rom := rfl
@[simp] theorem State.setCf_portOut (s : State) (v : Bool) : (s.setCf v).portOut = s.portOut := rfl
@[simp] theorem State.setCf_events (s : State) (v : Bool) : (s.setCf v).events = s.events := rfl
@[simp] theorem State.setCf_portReads (s : State) (v : Bool) : (s.setCf v).portReads = s.portReads := rfl
@[simp] theorem State.setCf_agent (s : State) (v : Bool) : (s.setCf v).agent = s.agent := rfl
@[simp] theorem State.setCf_params (s : State) (v : Bool) : (s.setCf v).params = s.params := rfl

@[simp] theorem State.setZf_acc (s : State) (v : Bool) : (s.setZf v).acc = s.acc := rfl
@[simp] theorem State.setZf_hr (s : State) (v : Bool) : (s.setZf v).hr = s.hr := rfl
@[simp] theorem State.setZf_lr (s : State) (v : Bool) : (s.setZf v).lr = s.lr := rfl
@[simp] theorem State.setZf_pc (s : State) (v : Bool) : (s.setZf v).pc = s.pc := rfl
@[simp] theorem State.setZf_cf (s : State) (v : Bool) : (s.setZf v).cf = s.cf := rfl
@[simp] theorem State.setZf_zf (s : State) (v : Bool) : (s.setZf v).zf = v := rfl
@[simp] theorem State.setZf_sf (s : State) (v : Bool) : (s.setZf v).sf = s.sf := rfl
@[simp] theorem State.setZf_gf (s : State) (v : Bool) : (s.setZf v).gf = s.gf := rfl
@[simp] theorem State.setZf_sp (s : State) (v : Bool) : (s.setZf v).sp = s.sp := rfl
@[simp] theorem State.setZf_stack (s : State) (v : Bool) : (s.setZf v).stack = s.stack := rfl
@[simp] theorem State.setZf_dp (s : State) (v : Bool) : (s.setZf v).dp = s.dp := rfl
@[simp] theorem State.setZf_ta (s : State) (v : Bool) : (s.setZf v).ta = s.ta := rfl
@[simp] theorem State.setZf_tb (s : State) (v : Bool) : (s.setZf v).tb = s.tb := rfl
@[simp] theorem State.setZf_eif (s : State) (v : Bool) : (s.setZf v).eif = s.eif := rfl
@[simp] theorem State.setZf_eir (s : State) (v : Bool) : (s.setZf v).eir = s.eir := rfl
@[simp] theorem State.setZf_il (s : State) (v : Bool) : (s.setZf v).il = s.il := rfl
@[simp] theorem State.setZf_ram (s : State) (v : Bool) : (s.setZf v).ram = s.ram := rfl
@[simp] theorem State.setZf_rom (s : State) (v : Bool) : (s.setZf v).rom = s.rom := rfl
@[simp] theorem State.setZf_portOut (s : State) (v : Bool) : (s.setZf v).portOut = s.portOut := rfl
@[simp] theorem State.setZf_events (s : State) (v : Bool) : (s.setZf v).events = s.events := rfl
@[simp] theorem State.setZf_portReads (s : State) (v : Bool) : (s.setZf v).portReads = s.portReads := rfl
@[simp] theorem State.setZf_agent (s : State) (v : Bool) : (s.setZf v).agent = s.agent := rfl
@[simp] theorem State.setZf_params (s : State) (v : Bool) : (s.setZf v).params = s.params := rfl

@[simp] theorem State.setSf_acc (s : State) (v : Bool) : (s.setSf v).acc = s.acc := rfl
@[simp] theorem State.setSf_hr (s : State) (v : Bool) : (s.setSf v).hr = s.hr := rfl
@[simp] theorem State.setSf_lr (s : State) (v : Bool) : (s.setSf v).lr = s.lr := rfl
@[simp] theorem State.setSf_pc (s : State) (v : Bool) : (s.setSf v).pc = s.pc := rfl
@[simp] theorem State.setSf_cf (s : State) (v : Bool) : (s.setSf v).cf = s.cf := rfl
@[simp] theorem State.setSf_zf (s : State) (v : Bool) : (s.setSf v).zf = s.zf := rfl
@[simp] theorem State.setSf_sf (s : State) (v : Bool) : (s.setSf v).sf = v := rfl
@[simp] theorem State.setSf_gf (s : State) (v : Bool) : (s.setSf v).gf = s.gf := rfl
@[simp] theorem State.setSf_sp (s : State) (v : Bool) : (s.setSf v).sp = s.sp := rfl
@[simp] theorem State.setSf_stack (s : State) (v : Bool) : (s.setSf v).stack = s.stack := rfl
@[simp] theorem State.setSf_dp (s : State) (v : Bool) : (s.setSf v).dp = s.dp := rfl
@[simp] theorem State.setSf_ta (s : State) (v : Bool) : (s.setSf v).ta = s.ta := rfl
@[simp] theorem State.setSf_tb (s : State) (v : Bool) : (s.setSf v).tb = s.tb := rfl
@[simp] theorem State.setSf_eif (s : State) (v : Bool) : (s.setSf v).eif = s.eif := rfl
@[simp] theorem State.setSf_eir (s : State) (v : Bool) : (s.setSf v).eir = s.eir := rfl
@[simp] theorem State.setSf_il (s : State) (v : Bool) : (s.setSf v).il = s.il := rfl
@[simp] theorem State.setSf_ram (s : State) (v : Bool) : (s.setSf v).ram = s.ram := rfl
@[simp] theorem State.setSf_rom (s : State) (v : Bool) : (s.setSf v).rom = s.rom := rfl
@[simp] theorem State.setSf_portOut (s : State) (v : Bool) : (s.setSf v).portOut = s.portOut := rfl
@[simp] theorem State.setSf_events (s : State) (v : Bool) : (s.setSf v).events = s.events := rfl
@[simp] theorem State.setSf_portReads (s : State) (v : Bool) : (s.setSf v).portReads = s.portReads := rfl
@[simp] theorem State.setSf_agent (s : State) (v : Bool) : (s.setSf v).agent = s.agent := rfl
@[simp] theorem State.setSf_params (s : State) (v : Bool) : (s.setSf v).params = s.params := rfl

@[simp] theorem State.setGf_acc (s : State) (v : Bool) : (s.setGf v).acc = s.acc := rfl
@[simp] theorem State.setGf_hr (s : State) (v : Bool) : (s.setGf v).hr = s.hr := rfl
@[simp] theorem State.setGf_lr (s : State) (v : Bool) : (s.setGf v).lr = s.lr := rfl
@[simp] theorem State.setGf_pc (s : State) (v : Bool) : (s.setGf v).pc = s.pc := rfl
@[simp] theorem State.setGf_cf (s : State) (v : Bool) : (s.setGf v).cf = s.cf := rfl
@[simp] theorem State.setGf_zf (s : State) (v : Bool) : (s.setGf v).zf = s.zf := rfl
@[simp] theorem State.setGf_sf (s : State) (v : Bool) : (s.setGf v).sf = s.sf := rfl
@[simp] theorem State.setGf_gf (s : State) (v : Bool) : (s.setGf v).gf = v := rfl
@[simp] theorem State.setGf_sp (s : State) (v : Bool) : (s.setGf v).sp = s.sp := rfl
@[simp] theorem State.setGf_stack (s : State) (v : Bool) : (s.setGf v).stack = s.stack := rfl
@[simp] theorem State.setGf_dp (s : State) (v : Bool) : (s.setGf v).dp = s.dp := rfl
@[simp] theorem State.setGf_ta (s : State) (v : Bool) : (s.setGf v).ta = s.ta := rfl
@[simp] theorem State.setGf_tb (s : State) (v : Bool) : (s.setGf v).tb = s.tb := rfl
@[simp] theorem State.setGf_eif (s : State) (v : Bool) : (s.setGf v).eif = s.eif := rfl
@[simp] theorem State.setGf_eir (s : State) (v : Bool) : (s.setGf v).eir = s.eir := rfl
@[simp] theorem State.setGf_il (s : State) (v : Bool) : (s.setGf v).il = s.il := rfl
@[simp] theorem State.setGf_ram (s : State) (v : Bool) : (s.setGf v).ram = s.ram := rfl
@[simp] theorem State.setGf_rom (s : State) (v : Bool) : (s.setGf v).rom = s.rom := rfl
@[simp] theorem State.setGf_portOut (s : State) (v : Bool) : (s.setGf v).portOut = s.portOut := rfl
@[simp] theorem State.setGf_events (s : State) (v : Bool) : (s.setGf v).events = s.events := rfl
@[simp] theorem State.setGf_portReads (s : State) (v : Bool) : (s.setGf v).portReads = s.portReads := rfl
@[simp] theorem State.setGf_agent (s : State) (v : Bool) : (s.setGf v).agent = s.agent := rfl
@[simp] theorem State.setGf_params (s : State) (v : Bool) : (s.setGf v).params = s.params := rfl

@[simp] theorem State.setSp_acc (s : State) (v : Nibble) : (s.setSp v).acc = s.acc := rfl
@[simp] theorem State.setSp_hr (s : State) (v : Nibble) : (s.setSp v).hr = s.hr := rfl
@[simp] theorem State.setSp_lr (s : State) (v : Nibble) : (s.setSp v).lr = s.lr := rfl
@[simp] theorem State.setSp_pc (s : State) (v : Nibble) : (s.setSp v).pc = s.pc := rfl
@[simp] theorem State.setSp_cf (s : State) (v : Nibble) : (s.setSp v).cf = s.cf := rfl
@[simp] theorem State.setSp_zf (s : State) (v : Nibble) : (s.setSp v).zf = s.zf := rfl
@[simp] theorem State.setSp_sf (s : State) (v : Nibble) : (s.setSp v).sf = s.sf := rfl
@[simp] theorem State.setSp_gf (s : State) (v : Nibble) : (s.setSp v).gf = s.gf := rfl
@[simp] theorem State.setSp_sp (s : State) (v : Nibble) : (s.setSp v).sp = v := rfl
@[simp] theorem State.setSp_stack (s : State) (v : Nibble) : (s.setSp v).stack = s.stack := rfl
@[simp] theorem State.setSp_dp (s : State) (v : Nibble) : (s.setSp v).dp = s.dp := rfl
@[simp] theorem State.setSp_ta (s : State) (v : Nibble) : (s.setSp v).ta = s.ta := rfl
@[simp] theorem State.setSp_tb (s : State) (v : Nibble) : (s.setSp v).tb = s.tb := rfl
@[simp] theorem State.setSp_eif (s : State) (v : Nibble) : (s.setSp v).eif = s.eif := rfl
@[simp] theorem State.setSp_eir (s : State) (v : Nibble) : (s.setSp v).eir = s.eir := rfl
@[simp] theorem State.setSp_il (s : State) (v : Nibble) : (s.setSp v).il = s.il := rfl
@[simp] theorem State.setSp_ram (s : State) (v : Nibble) : (s.setSp v).ram = s.ram := rfl
@[simp] theorem State.setSp_rom (s : State) (v : Nibble) : (s.setSp v).rom = s.rom := rfl
@[simp] theorem State.setSp_portOut (s : State) (v : Nibble) : (s.setSp v).portOut = s.portOut := rfl
@[simp] theorem State.setSp_events (s : State) (v : Nibble) : (s.setSp v).events = s.events := rfl
@[simp] theorem State.setSp_portReads (s : State) (v : Nibble) : (s.setSp v).portReads = s.portReads := rfl
@[simp] theorem State.setSp_agent (s : State) (v : Nibble) : (s.setSp v).agent = s.agent := rfl
@[simp] theorem State.setSp_params (s : State) (v : Nibble) : (s.setSp v).params = s.params := rfl

@[simp] theorem State.setStack_acc (s : State) (v : Memory StackEntry) : (s.setStack v).acc = s.acc := rfl
@[simp] theorem State.setStack_hr (s : State) (v : Memory StackEntry) : (s.setStack v).hr = s.hr := rfl
@[simp] theorem State.setStack_lr (s : State) (v : Memory StackEntry) : (s.setStack v).lr = s.lr := rfl
@[simp] theorem State.setStack_pc (s : State) (v : Memory StackEntry) : (s.setStack v).pc = s.pc := rfl
@[simp] theorem State.setStack_cf (s : State) (v : Memory StackEntry) : (s.setStack v).cf = s.cf := rfl
@[simp] theorem State.setStack_zf (s : State) (v : Memory StackEntry) : (s.setStack v).zf = s.zf := rfl
@[simp] theorem State.setStack_sf (s : State) (v : Memory StackEntry) : (s.setStack v).sf = s.sf := rfl
@[simp] theorem State.setStack_gf (s : State) (v : Memory StackEntry) : (s.setStack v).gf = s.gf := rfl
@[simp] theorem State.setStack_sp (s : State) (v : Memory StackEntry) : (s.setStack v).sp = s.sp := rfl
@[simp] theorem State.setStack_stack (s : State) (v : Memory StackEntry) : (s.setStack v).stack = v := rfl
@[simp] theorem State.setStack_dp (s : State) (v : Memory StackEntry) : (s.setStack v).dp = s.dp := rfl
@[simp] theorem State.setStack_ta (s : State) (v : Memory StackEntry) : (s.setStack v).ta = s.ta := rfl
@[simp] theorem State.setStack_tb (s : State) (v : Memory StackEntry) : (s.setStack v).tb = s.tb := rfl
@[simp] theorem State.setStack_eif (s : State) (v : Memory StackEntry) : (s.setStack v).eif = s.eif := rfl
@[simp] theorem State.setStack_eir (s : State) (v : Memory StackEntry) : (s.setStack v).eir = s.eir := rfl
@[simp] theorem State.setStack_il (s : State) (v : Memory StackEntry) : (s.setStack v).il = s.il := rfl
@[simp] theorem State.setStack_ram (s : State) (v : Memory StackEntry) : (s.setStack v).ram = s.ram := rfl
@[simp] theorem State.setStack_rom (s : State) (v : Memory StackEntry) : (s.setStack v).rom = s.rom := rfl
@[simp] theorem State.setStack_portOut (s : State) (v : Memory StackEntry) : (s.setStack v).portOut = s.portOut := rfl
@[simp] theorem State.setStack_events (s : State) (v : Memory StackEntry) : (s.setStack v).events = s.events := rfl
@[simp] theorem State.setStack_portReads (s : State) (v : Memory StackEntry) : (s.setStack v).portReads = s.portReads := rfl
@[simp] theorem State.setStack_agent (s : State) (v : Memory StackEntry) : (s.setStack v).agent = s.agent := rfl
@[simp] theorem State.setStack_params (s : State) (v : Memory StackEntry) : (s.setStack v).params = s.params := rfl

@[simp] theorem State.setDp_acc (s : State) (v : Triple) : (s.setDp v).acc = s.acc := rfl
@[simp] theorem State.setDp_hr (s : State) (v : Triple) : (s.setDp v).hr = s.hr := rfl
@[simp] theorem State.setDp_lr (s : State) (v : Triple) : (s.setDp v).lr = s.lr := rfl
@[simp] theorem State.setDp_pc (s : State) (v : Triple) : (s.setDp v).pc = s.pc := rfl
@[simp] theorem State.setDp_cf (s : State) (v : Triple) : (s.setDp v).cf = s.cf := rfl
@[simp] theorem State.setDp_zf (s : State) (v : Triple) : (s.setDp v).zf = s.zf := rfl
@[simp] theorem State.setDp_sf (s : State) (v : Triple) : (s.setDp v).sf = s.sf := rfl
@[simp] theorem State.setDp_gf (s : State) (v : Triple) : (s.setDp v).gf = s.gf := rfl
@[simp] theorem State.setDp_sp (s : State) (v : Triple) : (s.setDp v).sp = s.sp := rfl
@[simp] theorem State.setDp_stack (s : State) (v : Triple) : (s.setDp v).stack = s.stack := rfl
@[simp] theorem State.setDp_dp (s : State) (v : Triple) : (s.setDp v).dp = v := rfl
@[simp] theorem State.setDp_ta (s : State) (v : Triple) : (s.setDp v).ta = s.ta := rfl
@[simp] theorem State.setDp_tb (s : State) (v : Triple) : (s.setDp v).tb = s.tb := rfl
@[simp] theorem State.setDp_eif (s : State) (v : Triple) : (s.setDp v).eif = s.eif := rfl
@[simp] theorem State.setDp_eir (s : State) (v : Triple) : (s.setDp v).eir = s.eir := rfl
@[simp] theorem State.setDp_il (s : State) (v : Triple) : (s.setDp v).il = s.il := rfl
@[simp] theorem State.setDp_ram (s : State) (v : Triple) : (s.setDp v).ram = s.ram := rfl
@[simp] theorem State.setDp_rom (s : State) (v : Triple) : (s.setDp v).rom = s.rom := rfl
@[simp] theorem State.setDp_portOut (s : State) (v : Triple) : (s.setDp v).portOut = s.portOut := rfl
@[simp] theorem State.setDp_events (s : State) (v : Triple) : (s.setDp v).events = s.events := rfl
@[simp] theorem State.setDp_portReads (s : State) (v : Triple) : (s.setDp v).portReads = s.portReads := rfl
@[simp] theorem State.setDp_agent (s : State) (v : Triple) : (s.setDp v).agent = s.agent := rfl
@[simp] theorem State.setDp_params (s : State) (v : Triple) : (s.setDp v).params = s.params := rfl

@[simp] theorem State.setTa_acc (s : State) (v : Triple) : (s.setTa v).acc = s.acc := rfl
@[simp] theorem State.setTa_hr (s : State) (v : Triple) : (s.setTa v).hr = s.hr := rfl
@[simp] theorem State.setTa_lr (s : State) (v : Triple) : (s.setTa v).lr = s.lr := rfl
@[simp] theorem State.setTa_pc (s : State) (v : Triple) : (s.setTa v).pc = s.pc := rfl
@[simp] theorem State.setTa_cf (s : State) (v : Triple) : (s.setTa v).cf = s.cf := rfl
@[simp] theorem State.setTa_zf (s : State) (v : Triple) : (s.setTa v).zf = s.zf := rfl
@[simp] theorem State.setTa_sf (s : State) (v : Triple) : (s.setTa v).sf = s.sf := rfl
@[simp] theorem State.setTa_gf (s : State) (v : Triple) : (s.setTa v).gf = s.gf := rfl
@[simp] theorem State.setTa_sp (s : State) (v : Triple) : (s.setTa v).sp = s.sp := rfl
@[simp] theorem State.setTa_stack (s : State) (v : Triple) : (s.setTa v).stack = s.stack := rfl
@[simp] theorem State.setTa_dp (s : State) (v : Triple) : (s.setTa v).dp = s.dp := rfl
@[simp] theorem State.setTa_ta (s : State) (v : Triple) : (s.setTa v).ta = v := rfl
@[simp] theorem State.setTa_tb (s : State) (v : Triple) : (s.setTa v).tb = s.tb := rfl
@[simp] theorem State.setTa_eif (s : State) (v : Triple) : (s.setTa v).eif = s.eif := rfl
@[simp] theorem State.setTa_eir (s : State) (v : Triple) : (s.setTa v).eir = s.eir := rfl
@[simp] theorem State.setTa_il (s : State) (v : Triple) : (s.setTa v).il = s.il := rfl
@[simp] theorem State.setTa_ram (s : State) (v : Triple) : (s.setTa v).ram = s.ram := rfl
@[simp] theorem State.setTa_rom (s : State) (v : Triple) : (s.setTa v).rom = s.rom := rfl
@[simp] theorem State.setTa_portOut (s : State) (v : Triple) : (s.setTa v).portOut = s.portOut := rfl
@[simp] theorem State.setTa_events (s : State) (v : Triple) : (s.setTa v).events = s.events := rfl
@[simp] theorem State.setTa_portReads (s : State) (v : Triple) : (s.setTa v).portReads = s.portReads := rfl
@[simp] theorem State.setTa_agent (s : State) (v : Triple) : (s.setTa v).agent = s.agent := rfl
@[simp] theorem State.setTa_params (s : State) (v : Triple) : (s.setTa v).params = s.params := rfl

@[simp] theorem State.setTb_acc (s : State) (v : Triple) : (s.setTb v).acc = s.acc := rfl
@[simp] theorem State.setTb_hr (s : State) (v : Triple) : (s.setTb v).hr = s.hr := rfl
@[simp] theorem State.setTb_lr (s : State) (v : Triple) : (s.setTb v).lr = s.lr := rfl
@[simp] theorem State.setTb_pc (s : State) (v : Triple) : (s.setTb v).pc = s.pc := rfl
@[simp] theorem State.setTb_cf (s : State) (v : Triple) : (s.setTb v).cf = s.cf := rfl
@[simp] theorem State.setTb_zf (s : State) (v : Triple) : (s.setTb v).zf = s.zf := rfl
@[simp] theorem State.setTb_sf (s : State) (v : Triple) : (s.setTb v).sf = s.sf := rfl
@[simp] theorem State.setTb_gf (s : State) (v : Triple) : (s.setTb v).gf = s.gf := rfl
@[simp] theorem State.setTb_sp (s : State) (v : Triple) : (s.setTb v).sp = s.sp := rfl
@[simp] theorem State.setTb_stack (s : State) (v : Triple) : (s.setTb v).stack = s.stack := rfl
@[simp] theorem State.setTb_dp (s : State) (v : Triple) : (s.setTb v).dp = s.dp := rfl
@[simp] theorem State.setTb_ta (s : State) (v : Triple) : (s.setTb v).ta = s.ta := rfl
@[simp] theorem State.setTb_tb (s : State) (v : Triple) : (s.setTb v).tb = v := rfl
@[simp] theorem State.setTb_eif (s : State) (v : Triple) : (s.setTb v).eif = s.eif := rfl
@[simp] theorem State.setTb_eir (s : State) (v : Triple) : (s.setTb v).eir = s.eir := rfl
@[simp] theorem State.setTb_il (s : State) (v : Triple) : (s.setTb v).il = s.il := rfl
@[simp] theorem State.setTb_ram (s : State) (v : Triple) : (s.setTb v).ram = s.ram := rfl
@[simp] theorem State.setTb_rom (s : State) (v : Triple) : (s.setTb v).rom = s.rom := rfl
@[simp] theorem State.setTb_portOut (s : State) (v : Triple) : (s.setTb v).portOut = s.portOut := rfl
@[simp] theorem State.setTb_events (s : State) (v : Triple) : (s.setTb v).events = s.events := rfl
@[simp] theorem State.setTb_portReads (s : State) (v : Triple) : (s.setTb v).portReads = s.portReads := rfl
@[simp] theorem State.setTb_agent (s : State) (v : Triple) : (s.setTb v).agent = s.agent := rfl
@[simp] theorem State.setTb_params (s : State) (v : Triple) : (s.setTb v).params = s.params := rfl

@[simp] theorem State.setEif_acc (s : State) (v : Bool) : (s.setEif v).acc = s.acc := rfl
@[simp] theorem State.setEif_hr (s : State) (v : Bool) : (s.setEif v).hr = s.hr := rfl
@[simp] theorem State.setEif_lr (s : State) (v : Bool) : (s.setEif v).lr = s.lr := rfl
@[simp] theorem State.setEif_pc (s : State) (v : Bool) : (s.setEif v).pc = s.pc := rfl
@[simp] theorem State.setEif_cf (s : State) (v : Bool) : (s.setEif v).cf = s.cf := rfl
@[simp] theorem State.setEif_zf (s : State) (v : Bool) : (s.setEif v).zf = s.zf := rfl
@[simp] theorem State.setEif_sf (s : State) (v : Bool) : (s.setEif v).sf = s.sf := rfl
@[simp] theorem State.setEif_gf (s : State) (v : Bool) : (s.setEif v).gf = s.gf := rfl
@[simp] theorem State.setEif_sp (s : State) (v : Bool) : (s.setEif v).sp = s.sp := rfl
@[simp] theorem State.setEif_stack (s : State) (v : Bool) : (s.setEif v).stack = s.stack := rfl
@[simp] theorem State.setEif_dp (s : State) (v : Bool) : (s.setEif v).dp = s.dp := rfl
@[simp] theorem State.setEif_ta (s : State) (v : Bool) : (s.setEif v).ta = s.ta := rfl
@[simp] theorem State.setEif_tb (s : State) (v : Bool) : (s.setEif v).tb = s.tb := rfl
@[simp] theorem State.setEif_eif (s : State) (v : Bool) : (s.setEif v).eif = v := rfl
@[simp] theorem State.setEif_eir (s : State) (v : Bool) : (s.setEif v).eir = s.eir := rfl
@[simp] theorem State.setEif_il (s : State) (v : Bool) : (s.setEif v).il = s.il := rfl
@[simp] theorem State.setEif_ram (s : State) (v : Bool) : (s.setEif v).ram = s.ram := rfl
@[simp] theorem State.setEif_rom (s : State) (v : Bool) : (s.setEif v).rom = s.rom := rfl
@[simp] theorem State.setEif_portOut (s : State) (v : Bool) : (s.setEif v).portOut = s.portOut := rfl
@[simp] theorem State.setEif_events (s : State) (v : Bool) : (s.setEif v).events = s.events := rfl
@[simp] theorem State.setEif_portReads (s : State) (v : Bool) : (s.setEif v).portReads = s.portReads := rfl
@[simp] theorem State.setEif_agent (s : State) (v : Bool) : (s.setEif v).agent = s.agent := rfl
@[simp] theorem State.setEif_params (s : State) (v : Bool) : (s.setEif v).params = s.params := rfl

@[simp] theorem State.setEir_acc (s : State) (v : Nibble) : (s.setEir v).acc = s.acc := rfl
@[simp] theorem State.setEir_hr (s : State) (v : Nibble) : (s.setEir v).hr = s.hr := rfl
@[simp] theorem State.setEir_lr (s : State) (v : Nibble) : (s.setEir v).lr = s.lr := rfl
@[simp] theorem State.setEir_pc (s : State) (v : Nibble) : (s.setEir v).pc = s.pc := rfl
@[simp] theorem State.setEir_cf (s : State) (v : Nibble) : (s.setEir v).cf = s.cf := rfl
@[simp] theorem State.setEir_zf (s : State) (v : Nibble) : (s.setEir v).zf = s.zf := rfl
@[simp] theorem State.setEir_sf (s : State) (v : Nibble) : (s.setEir v).sf = s.sf := rfl
@[simp] theorem State.setEir_gf (s : State) (v : Nibble) : (s.setEir v).gf = s.gf := rfl
@[simp] theorem State.setEir_sp (s : State) (v : Nibble) : (s.setEir v).sp = s.sp := rfl
@[simp] theorem State.setEir_stack (s : State) (v : Nibble) : (s.setEir v).stack = s.stack := rfl
@[simp] theorem State.setEir_dp (s : State) (v : Nibble) : (s.setEir v).dp = s.dp := rfl
@[simp] theorem State.setEir_ta (s : State) (v : Nibble) : (s.setEir v).ta = s.ta := rfl
@[simp] theorem State.setEir_tb (s : State) (v : Nibble) : (s.setEir v).tb = s.tb := rfl
@[simp] theorem State.setEir_eif (s : State) (v : Nibble) : (s.setEir v).eif = s.eif := rfl
@[simp] theorem State.setEir_eir (s : State) (v : Nibble) : (s.setEir v).eir = v := rfl
@[simp] theorem State.setEir_il (s : State) (v : Nibble) : (s.setEir v).il = s.il := rfl
@[simp] theorem State.setEir_ram (s : State) (v : Nibble) : (s.setEir v).ram = s.ram := rfl
@[simp] theorem State.setEir_rom (s : State) (v : Nibble) : (s.setEir v).rom = s.rom := rfl
@[simp] theorem State.setEir_portOut (s : State) (v : Nibble) : (s.setEir v).portOut = s.portOut := rfl
@[simp] theorem State.setEir_events (s : State) (v : Nibble) : (s.setEir v).events = s.events := rfl
@[simp] theorem State.setEir_portReads (s : State) (v : Nibble) : (s.setEir v).portReads = s.portReads := rfl
@[simp] theorem State.setEir_agent (s : State) (v : Nibble) : (s.setEir v).agent = s.agent := rfl
@[simp] theorem State.setEir_params (s : State) (v : Nibble) : (s.setEir v).params = s.params := rfl

@[simp] theorem State.setIl_acc (s : State) (v : Latches) : (s.setIl v).acc = s.acc := rfl
@[simp] theorem State.setIl_hr (s : State) (v : Latches) : (s.setIl v).hr = s.hr := rfl
@[simp] theorem State.setIl_lr (s : State) (v : Latches) : (s.setIl v).lr = s.lr := rfl
@[simp] theorem State.setIl_pc (s : State) (v : Latches) : (s.setIl v).pc = s.pc := rfl
@[simp] theorem State.setIl_cf (s : State) (v : Latches) : (s.setIl v).cf = s.cf := rfl
@[simp] theorem State.setIl_zf (s : State) (v : Latches) : (s.setIl v).zf = s.zf := rfl
@[simp] theorem State.setIl_sf (s : State) (v : Latches) : (s.setIl v).sf = s.sf := rfl
@[simp] theorem State.setIl_gf (s : State) (v : Latches) : (s.setIl v).gf = s.gf := rfl
@[simp] theorem State.setIl_sp (s : State) (v : Latches) : (s.setIl v).sp = s.sp := rfl
@[simp] theorem State.setIl_stack (s : State) (v : Latches) : (s.setIl v).stack = s.stack := rfl
@[simp] theorem State.setIl_dp (s : State) (v : Latches) : (s.setIl v).dp = s.dp := rfl
@[simp] theorem State.setIl_ta (s : State) (v : Latches) : (s.setIl v).ta = s.ta := rfl
@[simp] theorem State.setIl_tb (s : State) (v : Latches) : (s.setIl v).tb = s.tb := rfl
@[simp] theorem State.setIl_eif (s : State) (v : Latches) : (s.setIl v).eif = s.eif := rfl
@[simp] theorem State.setIl_eir (s : State) (v : Latches) : (s.setIl v).eir = s.eir := rfl
@[simp] theorem State.setIl_il (s : State) (v : Latches) : (s.setIl v).il = v := rfl
@[simp] theorem State.setIl_ram (s : State) (v : Latches) : (s.setIl v).ram = s.ram := rfl
@[simp] theorem State.setIl_rom (s : State) (v : Latches) : (s.setIl v).rom = s.rom := rfl
@[simp] theorem State.setIl_portOut (s : State) (v : Latches) : (s.setIl v).portOut = s.portOut := rfl
@[simp] theorem State.setIl_events (s : State) (v : Latches) : (s.setIl v).events = s.events := rfl
@[simp] theorem State.setIl_portReads (s : State) (v : Latches) : (s.setIl v).portReads = s.portReads := rfl
@[simp] theorem State.setIl_agent (s : State) (v : Latches) : (s.setIl v).agent = s.agent := rfl
@[simp] theorem State.setIl_params (s : State) (v : Latches) : (s.setIl v).params = s.params := rfl

@[simp] theorem State.setRam_acc (s : State) (v : Memory Nibble) : (s.setRam v).acc = s.acc := rfl
@[simp] theorem State.setRam_hr (s : State) (v : Memory Nibble) : (s.setRam v).hr = s.hr := rfl
@[simp] theorem State.setRam_lr (s : State) (v : Memory Nibble) : (s.setRam v).lr = s.lr := rfl
@[simp] theorem State.setRam_pc (s : State) (v : Memory Nibble) : (s.setRam v).pc = s.pc := rfl
@[simp] theorem State.setRam_cf (s : State) (v : Memory Nibble) : (s.setRam v).cf = s.cf := rfl
@[simp] theorem State.setRam_zf (s : State) (v : Memory Nibble) : (s.setRam v).zf = s.zf := rfl
@[simp] theorem State.setRam_sf (s : State) (v : Memory Nibble) : (s.setRam v).sf = s.sf := rfl
@[simp] theorem State.setRam_gf (s : State) (v : Memory Nibble) : (s.setRam v).gf = s.gf := rfl
@[simp] theorem State.setRam_sp (s : State) (v : Memory Nibble) : (s.setRam v).sp = s.sp := rfl
@[simp] theorem State.setRam_stack (s : State) (v : Memory Nibble) : (s.setRam v).stack = s.stack := rfl
@[simp] theorem State.setRam_dp (s : State) (v : Memory Nibble) : (s.setRam v).dp = s.dp := rfl
@[simp] theorem State.setRam_ta (s : State) (v : Memory Nibble) : (s.setRam v).ta = s.ta := rfl
@[simp] theorem State.setRam_tb (s : State) (v : Memory Nibble) : (s.setRam v).tb = s.tb := rfl
@[simp] theorem State.setRam_eif (s : State) (v : Memory Nibble) : (s.setRam v).eif = s.eif := rfl
@[simp] theorem State.setRam_eir (s : State) (v : Memory Nibble) : (s.setRam v).eir = s.eir := rfl
@[simp] theorem State.setRam_il (s : State) (v : Memory Nibble) : (s.setRam v).il = s.il := rfl
@[simp] theorem State.setRam_ram (s : State) (v : Memory Nibble) : (s.setRam v).ram = v := rfl
@[simp] theorem State.setRam_rom (s : State) (v : Memory Nibble) : (s.setRam v).rom = s.rom := rfl
@[simp] theorem State.setRam_portOut (s : State) (v : Memory Nibble) : (s.setRam v).portOut = s.portOut := rfl
@[simp] theorem State.setRam_events (s : State) (v : Memory Nibble) : (s.setRam v).events = s.events := rfl
@[simp] theorem State.setRam_portReads (s : State) (v : Memory Nibble) : (s.setRam v).portReads = s.portReads := rfl
@[simp] theorem State.setRam_agent (s : State) (v : Memory Nibble) : (s.setRam v).agent = s.agent := rfl
@[simp] theorem State.setRam_params (s : State) (v : Memory Nibble) : (s.setRam v).params = s.params := rfl

@[simp] theorem State.setRom_acc (s : State) (v : Memory Byte) : (s.setRom v).acc = s.acc := rfl
@[simp] theorem State.setRom_hr (s : State) (v : Memory Byte) : (s.setRom v).hr = s.hr := rfl
@[simp] theorem State.setRom_lr (s : State) (v : Memory Byte) : (s.setRom v).lr = s.lr := rfl
@[simp] theorem State.setRom_pc (s : State) (v : Memory Byte) : (s.setRom v).pc = s.pc := rfl
@[simp] theorem State.setRom_cf (s : State) (v : Memory Byte) : (s.setRom v).cf = s.cf := rfl
@[simp] theorem State.setRom_zf (s : State) (v : Memory Byte) : (s.setRom v).zf = s.zf := rfl
@[simp] theorem State.setRom_sf (s : State) (v : Memory Byte) : (s.setRom v).sf = s.sf := rfl
@[simp] theorem State.setRom_gf (s : State) (v : Memory Byte) : (s.setRom v).gf = s.gf := rfl
@[simp] theorem State.setRom_sp (s : State) (v : Memory Byte) : (s.setRom v).sp = s.sp := rfl
@[simp] theorem State.setRom_stack (s : State) (v : Memory Byte) : (s.setRom v).stack = s.stack := rfl
@[simp] theorem State.setRom_dp (s : State) (v : Memory Byte) : (s.setRom v).dp = s.dp := rfl
@[simp] theorem State.setRom_ta (s : State) (v : Memory Byte) : (s.setRom v).ta = s.ta := rfl
@[simp] theorem State.setRom_tb (s : State) (v : Memory Byte) : (s.setRom v).tb = s.tb := rfl
@[simp] theorem State.setRom_eif (s : State) (v : Memory Byte) : (s.setRom v).eif = s.eif := rfl
@[simp] theorem State.setRom_eir (s : State) (v : Memory Byte) : (s.setRom v).eir = s.eir := rfl
@[simp] theorem State.setRom_il (s : State) (v : Memory Byte) : (s.setRom v).il = s.il := rfl
@[simp] theorem State.setRom_ram (s : State) (v : Memory Byte) : (s.setRom v).ram = s.ram := rfl
@[simp] theorem State.setRom_rom (s : State) (v : Memory Byte) : (s.setRom v).rom = v := rfl
@[simp] theorem State.setRom_portOut (s : State) (v : Memory Byte) : (s.setRom v).portOut = s.portOut := rfl
@[simp] theorem State.setRom_events (s : State) (v : Memory Byte) : (s.setRom v).events = s.events := rfl
@[simp] theorem State.setRom_portReads (s : State) (v : Memory Byte) : (s.setRom v).portReads = s.portReads := rfl
@[simp] theorem State.setRom_agent (s : State) (v : Memory Byte) : (s.setRom v).agent = s.agent := rfl
@[simp] theorem State.setRom_params (s : State) (v : Memory Byte) : (s.setRom v).params = s.params := rfl

@[simp] theorem State.setPortOut_acc (s : State) (v : Vector Nibble 32) : (s.setPortOut v).acc = s.acc := rfl
@[simp] theorem State.setPortOut_hr (s : State) (v : Vector Nibble 32) : (s.setPortOut v).hr = s.hr := rfl
@[simp] theorem State.setPortOut_lr (s : State) (v : Vector Nibble 32) : (s.setPortOut v).lr = s.lr := rfl
@[simp] theorem State.setPortOut_pc (s : State) (v : Vector Nibble 32) : (s.setPortOut v).pc = s.pc := rfl
@[simp] theorem State.setPortOut_cf (s : State) (v : Vector Nibble 32) : (s.setPortOut v).cf = s.cf := rfl
@[simp] theorem State.setPortOut_zf (s : State) (v : Vector Nibble 32) : (s.setPortOut v).zf = s.zf := rfl
@[simp] theorem State.setPortOut_sf (s : State) (v : Vector Nibble 32) : (s.setPortOut v).sf = s.sf := rfl
@[simp] theorem State.setPortOut_gf (s : State) (v : Vector Nibble 32) : (s.setPortOut v).gf = s.gf := rfl
@[simp] theorem State.setPortOut_sp (s : State) (v : Vector Nibble 32) : (s.setPortOut v).sp = s.sp := rfl
@[simp] theorem State.setPortOut_stack (s : State) (v : Vector Nibble 32) : (s.setPortOut v).stack = s.stack := rfl
@[simp] theorem State.setPortOut_dp (s : State) (v : Vector Nibble 32) : (s.setPortOut v).dp = s.dp := rfl
@[simp] theorem State.setPortOut_ta (s : State) (v : Vector Nibble 32) : (s.setPortOut v).ta = s.ta := rfl
@[simp] theorem State.setPortOut_tb (s : State) (v : Vector Nibble 32) : (s.setPortOut v).tb = s.tb := rfl
@[simp] theorem State.setPortOut_eif (s : State) (v : Vector Nibble 32) : (s.setPortOut v).eif = s.eif := rfl
@[simp] theorem State.setPortOut_eir (s : State) (v : Vector Nibble 32) : (s.setPortOut v).eir = s.eir := rfl
@[simp] theorem State.setPortOut_il (s : State) (v : Vector Nibble 32) : (s.setPortOut v).il = s.il := rfl
@[simp] theorem State.setPortOut_ram (s : State) (v : Vector Nibble 32) : (s.setPortOut v).ram = s.ram := rfl
@[simp] theorem State.setPortOut_rom (s : State) (v : Vector Nibble 32) : (s.setPortOut v).rom = s.rom := rfl
@[simp] theorem State.setPortOut_portOut (s : State) (v : Vector Nibble 32) : (s.setPortOut v).portOut = v := rfl
@[simp] theorem State.setPortOut_events (s : State) (v : Vector Nibble 32) : (s.setPortOut v).events = s.events := rfl
@[simp] theorem State.setPortOut_portReads (s : State) (v : Vector Nibble 32) : (s.setPortOut v).portReads = s.portReads := rfl
@[simp] theorem State.setPortOut_agent (s : State) (v : Vector Nibble 32) : (s.setPortOut v).agent = s.agent := rfl
@[simp] theorem State.setPortOut_params (s : State) (v : Vector Nibble 32) : (s.setPortOut v).params = s.params := rfl

@[simp] theorem State.setEvents_acc (s : State) (v : List PortEvent) : (s.setEvents v).acc = s.acc := rfl
@[simp] theorem State.setEvents_hr (s : State) (v : List PortEvent) : (s.setEvents v).hr = s.hr := rfl
@[simp] theorem State.setEvents_lr (s : State) (v : List PortEvent) : (s.setEvents v).lr = s.lr := rfl
@[simp] theorem State.setEvents_pc (s : State) (v : List PortEvent) : (s.setEvents v).pc = s.pc := rfl
@[simp] theorem State.setEvents_cf (s : State) (v : List PortEvent) : (s.setEvents v).cf = s.cf := rfl
@[simp] theorem State.setEvents_zf (s : State) (v : List PortEvent) : (s.setEvents v).zf = s.zf := rfl
@[simp] theorem State.setEvents_sf (s : State) (v : List PortEvent) : (s.setEvents v).sf = s.sf := rfl
@[simp] theorem State.setEvents_gf (s : State) (v : List PortEvent) : (s.setEvents v).gf = s.gf := rfl
@[simp] theorem State.setEvents_sp (s : State) (v : List PortEvent) : (s.setEvents v).sp = s.sp := rfl
@[simp] theorem State.setEvents_stack (s : State) (v : List PortEvent) : (s.setEvents v).stack = s.stack := rfl
@[simp] theorem State.setEvents_dp (s : State) (v : List PortEvent) : (s.setEvents v).dp = s.dp := rfl
@[simp] theorem State.setEvents_ta (s : State) (v : List PortEvent) : (s.setEvents v).ta = s.ta := rfl
@[simp] theorem State.setEvents_tb (s : State) (v : List PortEvent) : (s.setEvents v).tb = s.tb := rfl
@[simp] theorem State.setEvents_eif (s : State) (v : List PortEvent) : (s.setEvents v).eif = s.eif := rfl
@[simp] theorem State.setEvents_eir (s : State) (v : List PortEvent) : (s.setEvents v).eir = s.eir := rfl
@[simp] theorem State.setEvents_il (s : State) (v : List PortEvent) : (s.setEvents v).il = s.il := rfl
@[simp] theorem State.setEvents_ram (s : State) (v : List PortEvent) : (s.setEvents v).ram = s.ram := rfl
@[simp] theorem State.setEvents_rom (s : State) (v : List PortEvent) : (s.setEvents v).rom = s.rom := rfl
@[simp] theorem State.setEvents_portOut (s : State) (v : List PortEvent) : (s.setEvents v).portOut = s.portOut := rfl
@[simp] theorem State.setEvents_events (s : State) (v : List PortEvent) : (s.setEvents v).events = v := rfl
@[simp] theorem State.setEvents_portReads (s : State) (v : List PortEvent) : (s.setEvents v).portReads = s.portReads := rfl
@[simp] theorem State.setEvents_agent (s : State) (v : List PortEvent) : (s.setEvents v).agent = s.agent := rfl
@[simp] theorem State.setEvents_params (s : State) (v : List PortEvent) : (s.setEvents v).params = s.params := rfl

@[simp] theorem State.setPortReads_acc (s : State) (v : Nat) : (s.setPortReads v).acc = s.acc := rfl
@[simp] theorem State.setPortReads_hr (s : State) (v : Nat) : (s.setPortReads v).hr = s.hr := rfl
@[simp] theorem State.setPortReads_lr (s : State) (v : Nat) : (s.setPortReads v).lr = s.lr := rfl
@[simp] theorem State.setPortReads_pc (s : State) (v : Nat) : (s.setPortReads v).pc = s.pc := rfl
@[simp] theorem State.setPortReads_cf (s : State) (v : Nat) : (s.setPortReads v).cf = s.cf := rfl
@[simp] theorem State.setPortReads_zf (s : State) (v : Nat) : (s.setPortReads v).zf = s.zf := rfl
@[simp] theorem State.setPortReads_sf (s : State) (v : Nat) : (s.setPortReads v).sf = s.sf := rfl
@[simp] theorem State.setPortReads_gf (s : State) (v : Nat) : (s.setPortReads v).gf = s.gf := rfl
@[simp] theorem State.setPortReads_sp (s : State) (v : Nat) : (s.setPortReads v).sp = s.sp := rfl
@[simp] theorem State.setPortReads_stack (s : State) (v : Nat) : (s.setPortReads v).stack = s.stack := rfl
@[simp] theorem State.setPortReads_dp (s : State) (v : Nat) : (s.setPortReads v).dp = s.dp := rfl
@[simp] theorem State.setPortReads_ta (s : State) (v : Nat) : (s.setPortReads v).ta = s.ta := rfl
@[simp] theorem State.setPortReads_tb (s : State) (v : Nat) : (s.setPortReads v).tb = s.tb := rfl
@[simp] theorem State.setPortReads_eif (s : State) (v : Nat) : (s.setPortReads v).eif = s.eif := rfl
@[simp] theorem State.setPortReads_eir (s : State) (v : Nat) : (s.setPortReads v).eir = s.eir := rfl
@[simp] theorem State.setPortReads_il (s : State) (v : Nat) : (s.setPortReads v).il = s.il := rfl
@[simp] theorem State.setPortReads_ram (s : State) (v : Nat) : (s.setPortReads v).ram = s.ram := rfl
@[simp] theorem State.setPortReads_rom (s : State) (v : Nat) : (s.setPortReads v).rom = s.rom := rfl
@[simp] theorem State.setPortReads_portOut (s : State) (v : Nat) : (s.setPortReads v).portOut = s.portOut := rfl
@[simp] theorem State.setPortReads_events (s : State) (v : Nat) : (s.setPortReads v).events = s.events := rfl
@[simp] theorem State.setPortReads_portReads (s : State) (v : Nat) : (s.setPortReads v).portReads = v := rfl
@[simp] theorem State.setPortReads_agent (s : State) (v : Nat) : (s.setPortReads v).agent = s.agent := rfl
@[simp] theorem State.setPortReads_params (s : State) (v : Nat) : (s.setPortReads v).params = s.params := rfl

@[simp] theorem State.setAgent_acc (s : State) (v : List AgentMove) : (s.setAgent v).acc = s.acc := rfl
@[simp] theorem State.setAgent_hr (s : State) (v : List AgentMove) : (s.setAgent v).hr = s.hr := rfl
@[simp] theorem State.setAgent_lr (s : State) (v : List AgentMove) : (s.setAgent v).lr = s.lr := rfl
@[simp] theorem State.setAgent_pc (s : State) (v : List AgentMove) : (s.setAgent v).pc = s.pc := rfl
@[simp] theorem State.setAgent_cf (s : State) (v : List AgentMove) : (s.setAgent v).cf = s.cf := rfl
@[simp] theorem State.setAgent_zf (s : State) (v : List AgentMove) : (s.setAgent v).zf = s.zf := rfl
@[simp] theorem State.setAgent_sf (s : State) (v : List AgentMove) : (s.setAgent v).sf = s.sf := rfl
@[simp] theorem State.setAgent_gf (s : State) (v : List AgentMove) : (s.setAgent v).gf = s.gf := rfl
@[simp] theorem State.setAgent_sp (s : State) (v : List AgentMove) : (s.setAgent v).sp = s.sp := rfl
@[simp] theorem State.setAgent_stack (s : State) (v : List AgentMove) : (s.setAgent v).stack = s.stack := rfl
@[simp] theorem State.setAgent_dp (s : State) (v : List AgentMove) : (s.setAgent v).dp = s.dp := rfl
@[simp] theorem State.setAgent_ta (s : State) (v : List AgentMove) : (s.setAgent v).ta = s.ta := rfl
@[simp] theorem State.setAgent_tb (s : State) (v : List AgentMove) : (s.setAgent v).tb = s.tb := rfl
@[simp] theorem State.setAgent_eif (s : State) (v : List AgentMove) : (s.setAgent v).eif = s.eif := rfl
@[simp] theorem State.setAgent_eir (s : State) (v : List AgentMove) : (s.setAgent v).eir = s.eir := rfl
@[simp] theorem State.setAgent_il (s : State) (v : List AgentMove) : (s.setAgent v).il = s.il := rfl
@[simp] theorem State.setAgent_ram (s : State) (v : List AgentMove) : (s.setAgent v).ram = s.ram := rfl
@[simp] theorem State.setAgent_rom (s : State) (v : List AgentMove) : (s.setAgent v).rom = s.rom := rfl
@[simp] theorem State.setAgent_portOut (s : State) (v : List AgentMove) : (s.setAgent v).portOut = s.portOut := rfl
@[simp] theorem State.setAgent_events (s : State) (v : List AgentMove) : (s.setAgent v).events = s.events := rfl
@[simp] theorem State.setAgent_portReads (s : State) (v : List AgentMove) : (s.setAgent v).portReads = s.portReads := rfl
@[simp] theorem State.setAgent_agent (s : State) (v : List AgentMove) : (s.setAgent v).agent = v := rfl
@[simp] theorem State.setAgent_params (s : State) (v : List AgentMove) : (s.setAgent v).params = s.params := rfl

@[simp] theorem State.setParams_acc (s : State) (v : Params) : (s.setParams v).acc = s.acc := rfl
@[simp] theorem State.setParams_hr (s : State) (v : Params) : (s.setParams v).hr = s.hr := rfl
@[simp] theorem State.setParams_lr (s : State) (v : Params) : (s.setParams v).lr = s.lr := rfl
@[simp] theorem State.setParams_pc (s : State) (v : Params) : (s.setParams v).pc = s.pc := rfl
@[simp] theorem State.setParams_cf (s : State) (v : Params) : (s.setParams v).cf = s.cf := rfl
@[simp] theorem State.setParams_zf (s : State) (v : Params) : (s.setParams v).zf = s.zf := rfl
@[simp] theorem State.setParams_sf (s : State) (v : Params) : (s.setParams v).sf = s.sf := rfl
@[simp] theorem State.setParams_gf (s : State) (v : Params) : (s.setParams v).gf = s.gf := rfl
@[simp] theorem State.setParams_sp (s : State) (v : Params) : (s.setParams v).sp = s.sp := rfl
@[simp] theorem State.setParams_stack (s : State) (v : Params) : (s.setParams v).stack = s.stack := rfl
@[simp] theorem State.setParams_dp (s : State) (v : Params) : (s.setParams v).dp = s.dp := rfl
@[simp] theorem State.setParams_ta (s : State) (v : Params) : (s.setParams v).ta = s.ta := rfl
@[simp] theorem State.setParams_tb (s : State) (v : Params) : (s.setParams v).tb = s.tb := rfl
@[simp] theorem State.setParams_eif (s : State) (v : Params) : (s.setParams v).eif = s.eif := rfl
@[simp] theorem State.setParams_eir (s : State) (v : Params) : (s.setParams v).eir = s.eir := rfl
@[simp] theorem State.setParams_il (s : State) (v : Params) : (s.setParams v).il = s.il := rfl
@[simp] theorem State.setParams_ram (s : State) (v : Params) : (s.setParams v).ram = s.ram := rfl
@[simp] theorem State.setParams_rom (s : State) (v : Params) : (s.setParams v).rom = s.rom := rfl
@[simp] theorem State.setParams_portOut (s : State) (v : Params) : (s.setParams v).portOut = s.portOut := rfl
@[simp] theorem State.setParams_events (s : State) (v : Params) : (s.setParams v).events = s.events := rfl
@[simp] theorem State.setParams_portReads (s : State) (v : Params) : (s.setParams v).portReads = s.portReads := rfl
@[simp] theorem State.setParams_agent (s : State) (v : Params) : (s.setParams v).agent = s.agent := rfl
@[simp] theorem State.setParams_params (s : State) (v : Params) : (s.setParams v).params = v := rfl

@[simp] theorem State.advance_acc (s : State) (n : Nat) : (s.advance n).acc = s.acc := rfl
@[simp] theorem State.advance_hr (s : State) (n : Nat) : (s.advance n).hr = s.hr := rfl
@[simp] theorem State.advance_lr (s : State) (n : Nat) : (s.advance n).lr = s.lr := rfl
@[simp] theorem State.advance_pc (s : State) (n : Nat) : (s.advance n).pc = s.next n := rfl
@[simp] theorem State.advance_cf (s : State) (n : Nat) : (s.advance n).cf = s.cf := rfl
@[simp] theorem State.advance_zf (s : State) (n : Nat) : (s.advance n).zf = s.zf := rfl
@[simp] theorem State.advance_sf (s : State) (n : Nat) : (s.advance n).sf = s.sf := rfl
@[simp] theorem State.advance_gf (s : State) (n : Nat) : (s.advance n).gf = s.gf := rfl
@[simp] theorem State.advance_sp (s : State) (n : Nat) : (s.advance n).sp = s.sp := rfl
@[simp] theorem State.advance_stack (s : State) (n : Nat) : (s.advance n).stack = s.stack := rfl
@[simp] theorem State.advance_dp (s : State) (n : Nat) : (s.advance n).dp = s.dp := rfl
@[simp] theorem State.advance_ta (s : State) (n : Nat) : (s.advance n).ta = s.ta := rfl
@[simp] theorem State.advance_tb (s : State) (n : Nat) : (s.advance n).tb = s.tb := rfl
@[simp] theorem State.advance_eif (s : State) (n : Nat) : (s.advance n).eif = s.eif := rfl
@[simp] theorem State.advance_eir (s : State) (n : Nat) : (s.advance n).eir = s.eir := rfl
@[simp] theorem State.advance_il (s : State) (n : Nat) : (s.advance n).il = s.il := rfl
@[simp] theorem State.advance_ram (s : State) (n : Nat) : (s.advance n).ram = s.ram := rfl
@[simp] theorem State.advance_rom (s : State) (n : Nat) : (s.advance n).rom = s.rom := rfl
@[simp] theorem State.advance_portOut (s : State) (n : Nat) : (s.advance n).portOut = s.portOut := rfl
@[simp] theorem State.advance_events (s : State) (n : Nat) : (s.advance n).events = s.events := rfl
@[simp] theorem State.advance_portReads (s : State) (n : Nat) : (s.advance n).portReads = s.portReads := rfl
@[simp] theorem State.advance_agent (s : State) (n : Nat) : (s.advance n).agent = s.agent := rfl
@[simp] theorem State.advance_params (s : State) (n : Nat) : (s.advance n).params = s.params := rfl

end Sys2Proof.Machine
end

