-- ==== Sys2Proof/Laws/Ops.lean ====
section
/-! SUPPORT. For each shared operation, once, everything it can do: the provers cite these and do not unfold the operation. -/

namespace Sys2Proof.Machine

@[simp] theorem orFault_ok {α : Type} (a : α) (k : α → Result) : orFault (.ok a) k = k a := rfl

@[simp] theorem orFault_error {α : Type} (f : Fault) (k : α → Result) : orFault (.error f) k = .fault f := rfl

/-- What carries on after an access to a next state. -/
theorem orFault_next_iff {α : Type} {r : Except Fault α} {k : α → Result} {t : State} :
    orFault r k = .next t ↔ ∃ a, r = .ok a ∧ k a = .next t := by
  cases r <;> simp [orFault]

@[simp] theorem orFault_ne_refused {α : Type} (r : Except Fault α) (k : α → Result) (e : Refusal) :
    orFault r k = .refused e ↔ ∃ a, r = .ok a ∧ k a = .refused e := by
  cases r <;> simp [orFault]

theorem State.validData_iff (s : State) (a : DataAddr) :
    s.validData a = true ↔ a.toNat < s.params.ramSize ∧ a.toNat < 0xF0 := by
  simp [State.validData]

/-- MemRead answers m exactly when the address is valid and the cell holds m. -/
theorem State.memRead_ok_iff {s : State} {a : DataAddr} {m : Nibble} : s.memRead a = .ok m ↔ s.cellHolds a m := by
  unfold State.memRead State.cellHolds
  split
  · next h => split <;> simp_all
  · next h => simp [h]

theorem State.memRead_of_cellHolds {s : State} {a : DataAddr} {m : Nibble} (h : s.cellHolds a m) : s.memRead a = .ok m :=
  State.memRead_ok_iff.2 h

/-- MemRead at an invalid address. -/
theorem State.memRead_invalid {s : State} {a : DataAddr} (h : s.validData a = false) :
    s.memRead a = .error (.dataAddress a) := by
  simp [State.memRead, h]

/-- MemRead of a cell that nothing has written. -/
theorem State.memRead_unwritten {s : State} {a : DataAddr} (h : s.validData a = true) (hn : s.ram.read a.toNat = none) :
    s.memRead a = .error (.unwrittenRead (.ram a)) := by
  simp [State.memRead, h, hn]

/-- MemWrite answers t exactly when the address is valid and t is the state with the cell written. -/
theorem State.memWrite_ok_iff {s t : State} {a : DataAddr} {v : Nibble} :
    s.memWrite a v = .ok t ↔ s.validData a = true ∧ t = s.setRam (s.ram.write a.toNat v) := by
  unfold State.memWrite
  split
  · next h => simp [h, eq_comm]
  · next h => simp [h]

theorem State.memWrite_valid {s : State} {a : DataAddr} {v : Nibble} (h : s.validData a = true) :
    s.memWrite a v = .ok (s.setRam (s.ram.write a.toNat v)) := by
  simp [State.memWrite, h]

/-- MemWrite at an invalid address. -/
theorem State.memWrite_invalid {s : State} {a : DataAddr} {v : Nibble} (h : s.validData a = false) :
    s.memWrite a v = .error (.dataAddress a) := by
  simp [State.memWrite, h]

/-- RomRead answers b exactly when the address is below ROM_SIZE and the image has b there. -/
theorem State.romRead_ok_iff {s : State} {a : Nat} {b : Byte} :
    s.romRead a = .ok b ↔ a < s.params.chip.romSize ∧ s.rom.read a = some b := by
  unfold State.romRead
  split
  · next h => split <;> simp_all
  · next h => simp [h]

/-- RomRead outside program memory. -/
theorem State.romRead_outside {s : State} {a : Nat} (h : s.params.chip.romSize ≤ a) :
    s.romRead a = .error (.programAddress a) := by
  simp [State.romRead, Nat.not_lt.2 h]

/-- PortRead answers exactly when the port can be read, with the environment's value and the state after the read. -/
theorem State.portRead_ok_iff {s : State} {p : PortNo} {r : Nibble × State} :
    s.portRead p = .ok r ↔ s.readable p = true ∧ r = (s.portInput p, s.afterPortRead p) := by
  unfold State.portRead
  split
  · next h => simp [h, eq_comm]
  · next h => simp [h]

/-- PortWrite answers exactly when the port can be written. -/
theorem State.portWrite_ok_iff {s t : State} {p : PortNo} {v : Nibble} :
    s.portWrite p v = .ok t ↔
      s.writable p = true ∧ t = (s.setLatch p v).setEvents (s.events ++ [.write p v]) := by
  unfold State.portWrite
  split
  · next h => simp [h, eq_comm]
  · next h => simp [h]

/-- PortWrite2 answers exactly when both ports can be written. -/
theorem State.portWrite2_ok_iff {s t : State} {p1 p2 : PortNo} {v1 v2 : Nibble} :
    s.portWrite2 p1 v1 p2 v2 = .ok t ↔
      s.writable p1 = true ∧ s.writable p2 = true ∧
        t = ((s.setLatch p1 v1).setLatch p2 v2).setEvents (s.events ++ [.write2 p1 v1 p2 v2]) := by
  unfold State.portWrite2
  split
  · next h =>
    split
    · next h2 => simp [h, h2, eq_comm]
    · next h2 => simp [h, h2]
  · next h => simp [h]

/-- The pc part of a stack entry. -/
theorem State.stackPc_ok_iff {s : State} {i : Nibble} {pc : CodeAddr} :
    s.stackPc i = .ok pc ↔ ∃ e, s.stack.read i.toNat = some e ∧ e.pc = pc := by
  unfold State.stackPc
  split <;> simp_all

/-- The flag part of a stack entry. -/
theorem State.stackFlags_ok_iff {s : State} {i : Nibble} {f : Flags} :
    s.stackFlags i = .ok f ↔ ∃ e, s.stack.read i.toNat = some e ∧ e.flags = some f := by
  unfold State.stackFlags
  split
  · next e h => split <;> simp_all
  · next h => simp [h]

/-- The return from an interrupt goes on exactly when the entry at the new SP has both parts. -/
theorem State.returnFromInterrupt_ok_iff {s t : State} :
    s.returnFromInterrupt = .ok t ↔
      ∃ pc fl, s.stack.read s.popIndex.toNat = some ⟨pc, some fl⟩ ∧
        t = ((((((s.setSp s.popIndex).setEif true).setCf fl.c).setZf fl.z).setSf fl.s).setPc pc) := by
  unfold State.returnFromInterrupt
  constructor
  · intro h
    split at h
    · cases h
    · next fl hf =>
      split at h
      · cases h
      · next pc hp =>
        obtain ⟨e, he, hfl⟩ := State.stackFlags_ok_iff.1 hf
        obtain ⟨e', he', hpc⟩ := State.stackPc_ok_iff.1 hp
        rw [he] at he'
        cases he'
        obtain ⟨epc, efl⟩ := e
        simp only at hfl hpc
        subst hpc
        subst hfl
        exact ⟨_, _, he, by cases h; rfl⟩
  · rintro ⟨pc, fl, he, rfl⟩
    rw [State.stackFlags_ok_iff.2 ⟨_, he, rfl⟩, State.stackPc_ok_iff.2 ⟨_, he, rfl⟩]

/-- Where the boundary lets the next instruction run. -/
theorem State.boundary_run_iff (s : State) :
    s.boundary = .run ↔
      s.eif = false ∨ s.il = 0#6 ∨ ∃ srcs, s.params.intConfig = some srcs ∧ ∀ x ∈ srcs, s.requests x = false := by
  unfold State.boundary
  by_cases h : (s.eif && s.il != 0#6) = true
  · rw [if_pos h]
    simp only [Bool.and_eq_true, bne_iff_ne, ne_eq] at h
    cases hc : s.params.intConfig with
    | none => simp [h.1, h.2]
    | some srcs =>
      cases hf : srcs.find? s.requests with
      | none =>
        have hall : ∀ x ∈ srcs, s.requests x = false := by simpa using hf
        simpa [hf, h.1, h.2] using hall
      | some x =>
        have hx := List.find?_some hf
        have hm := List.mem_of_find?_eq_some hf
        simp only [hf, h.1, h.2, Option.some.injEq, exists_eq_left', Bool.true_eq_false, false_or, reduceCtorEq, false_iff]
        intro hall
        simp [hall x hm] at hx
  · rw [if_neg h]
    simp only [true_iff]
    by_cases he : s.eif = true
    · exact .inr (.inl (by simpa [he] using h))
    · exact .inl (by simpa using he)

/-- Where the boundary refuses: interrupts on, a latch set, and no INT_CONFIG. -/
theorem State.boundary_unconfigured_iff (s : State) :
    s.boundary = .unconfigured ↔ s.eif = true ∧ s.il ≠ 0#6 ∧ s.params.intConfig = none := by
  unfold State.boundary
  by_cases h : (s.eif && s.il != 0#6) = true
  · rw [if_pos h]
    simp only [Bool.and_eq_true, bne_iff_ne, ne_eq] at h
    cases hc : s.params.intConfig with
    | none => simp [h.1, h.2]
    | some srcs => cases hf : srcs.find? s.requests <;> simp [hf]
  · rw [if_neg h]
    simp only [reduceCtorEq, false_iff]
    rintro ⟨h1, h2, -⟩
    exact h (by simp [h1, h2])

@[simp] theorem State.atBoundary_of_no_agent {s : State} (h : s.agent = []) : s.atBoundary = s := by
  simp [State.atBoundary, h]

/-! The outside agents' move changes TA, TB, latches and the moves to come; what it leaves unchanged. -/

@[simp] theorem State.atBoundary_params (s : State) : s.atBoundary.params = s.params := by unfold State.atBoundary; split <;> rfl
@[simp] theorem State.atBoundary_acc (s : State) : s.atBoundary.acc = s.acc := by unfold State.atBoundary; split <;> rfl
@[simp] theorem State.atBoundary_hr (s : State) : s.atBoundary.hr = s.hr := by unfold State.atBoundary; split <;> rfl
@[simp] theorem State.atBoundary_lr (s : State) : s.atBoundary.lr = s.lr := by unfold State.atBoundary; split <;> rfl
@[simp] theorem State.atBoundary_pc (s : State) : s.atBoundary.pc = s.pc := by unfold State.atBoundary; split <;> rfl
@[simp] theorem State.atBoundary_cf (s : State) : s.atBoundary.cf = s.cf := by unfold State.atBoundary; split <;> rfl
@[simp] theorem State.atBoundary_zf (s : State) : s.atBoundary.zf = s.zf := by unfold State.atBoundary; split <;> rfl
@[simp] theorem State.atBoundary_sf (s : State) : s.atBoundary.sf = s.sf := by unfold State.atBoundary; split <;> rfl
@[simp] theorem State.atBoundary_gf (s : State) : s.atBoundary.gf = s.gf := by unfold State.atBoundary; split <;> rfl
@[simp] theorem State.atBoundary_sp (s : State) : s.atBoundary.sp = s.sp := by unfold State.atBoundary; split <;> rfl
@[simp] theorem State.atBoundary_stack (s : State) : s.atBoundary.stack = s.stack := by unfold State.atBoundary; split <;> rfl
@[simp] theorem State.atBoundary_dp (s : State) : s.atBoundary.dp = s.dp := by unfold State.atBoundary; split <;> rfl
@[simp] theorem State.atBoundary_eif (s : State) : s.atBoundary.eif = s.eif := by unfold State.atBoundary; split <;> rfl
@[simp] theorem State.atBoundary_eir (s : State) : s.atBoundary.eir = s.eir := by unfold State.atBoundary; split <;> rfl
@[simp] theorem State.atBoundary_ram (s : State) : s.atBoundary.ram = s.ram := by unfold State.atBoundary; split <;> rfl
@[simp] theorem State.atBoundary_rom (s : State) : s.atBoundary.rom = s.rom := by unfold State.atBoundary; split <;> rfl
@[simp] theorem State.atBoundary_portOut (s : State) : s.atBoundary.portOut = s.portOut := by unfold State.atBoundary; split <;> rfl
@[simp] theorem State.atBoundary_events (s : State) : s.atBoundary.events = s.events := by unfold State.atBoundary; split <;> rfl
@[simp] theorem State.atBoundary_portReads (s : State) : s.atBoundary.portReads = s.portReads := by unfold State.atBoundary; split <;> rfl

/-- A step gives a next state by interrupt entry or by running the instruction at PC. -/
theorem step_next_iff {s t : State} :
    step s = .next t ↔
      (∃ src, s.atBoundary.boundary = .enter src ∧ t = s.atBoundary.enterInterrupt src) ∨
        (s.atBoundary.boundary = .run ∧ ∃ i, s.atBoundary.fetch = .ok i ∧ exec i s.atBoundary = .next t) := by
  unfold step
  split
  · next h => simp [h]
  · next src h => simp [h, eq_comm]
  · next h => simp [h, orFault_next_iff]

end Sys2Proof.Machine
end

