-- ==== Sys2Proof/Laws/Fetch.lean ====
section
/-! SUPPORT. What fetching does, once: with bytes at PC that decode, the instruction; else the fault. -/

namespace Sys2Proof.Machine

/-- A byte of bytes at PC is read. -/
theorem State.romRead_of_bytesAtPc {s : State} {bs : List Byte} (h : s.bytesAtPc bs) {j : Nat} {b : Byte} (hb : bs[j]? = some b) :
    s.romRead (s.pc.toNat + j) = .ok b := by
  have hj : j < bs.length := by
    by_contra hn
    rw [List.getElem?_eq_none (by omega)] at hb
    exact absurd hb (by simp)
  exact State.romRead_ok_iff.2 ⟨by have := h.1; omega, (h.2 j hj).trans hb⟩

/-- One byte of a fetch, where it is read. -/
theorem State.fetchFrom_read {s : State} {fuel : Nat} {got : List Byte} {b : Byte}
    (h : s.romRead (s.pc.toNat + got.length) = .ok b) :
    s.fetchFrom (fuel + 1) got =
      match decode s.params (got ++ [b]) with
      | .instr i _ => .ok i
      | .reserved _ bytes => .error (.reservedEncoding bytes s.pc)
      | .needMore => s.fetchFrom fuel (got ++ [b]) := by
  cases hd : decode s.params (got ++ [b]) <;> simp only [State.fetchFrom, h, hd]

/-- Bytes at PC that the decoder settles are fetched: the instruction. -/
theorem State.fetch_of_instr {s : State} {bs : List Byte} {i : Instr} (h : s.bytesAtPc bs)
    (hd : decode s.params bs = .instr i []) : s.fetch = .ok i := by
  have hl := decode_length hd
  have h3 := i.length_le_three
  have hm := fun x y (hy : y ≠ []) (e : bs = x ++ y) => decode_needMore_of_instr (bs := x) hy (e ▸ hd)
  match bs, h, hd, hl, hm with
  | [], _, hd, _, _ => simp [decode] at hd
  | [a], h, hd, _, _ =>
    have ha := State.romRead_of_bytesAtPc h (j := 0) rfl
    rw [State.fetch, State.fetchFrom_read ha]; simp [hd]
  | [a, b], h, hd, _, hm =>
    have ha := State.romRead_of_bytesAtPc h (j := 0) rfl
    have hb := State.romRead_of_bytesAtPc h (j := 1) rfl
    have m1 := hm [a] [b] (by simp) rfl
    rw [State.fetch, State.fetchFrom_read ha]
    simp only [List.nil_append, m1]
    rw [State.fetchFrom_read hb]; simp [hd]
  | [a, b, c], h, hd, _, hm =>
    have ha := State.romRead_of_bytesAtPc h (j := 0) rfl
    have hb := State.romRead_of_bytesAtPc h (j := 1) rfl
    have hc := State.romRead_of_bytesAtPc h (j := 2) rfl
    have m1 := hm [a] [b, c] (by simp) rfl
    have m2 := hm [a, b] [c] (by simp) rfl
    rw [State.fetch, State.fetchFrom_read ha]
    simp only [List.nil_append, m1]
    rw [State.fetchFrom_read hb]
    simp only [List.cons_append, List.nil_append, m2]
    rw [State.fetchFrom_read hc]; simp [hd]
  | a :: b :: c :: d :: e, _, _, hl, _ => simp at hl; omega

/-- Bytes at PC that the decoder finds reserved are reported. -/
theorem State.fetch_of_reserved {s : State} {bs : List Byte} {why : ReservedWhy} (h : s.bytesAtPc bs)
    (hd : decode s.params bs = .reserved why bs) : s.fetch = .error (.reservedEncoding bs s.pc) := by
  have ha := decode_accounts s.params bs
  rw [hd] at ha
  obtain ⟨-, -, -, h2⟩ := ha
  have hm := fun x y (hy : y ≠ []) (e : bs = x ++ y) =>
    decode_needMore_of_reserved (bs := x) (why := why) hy (e ▸ hd)
  match bs, h, hd, h2, hm with
  | [], _, hd, _, _ => simp [decode] at hd
  | [a], h, hd, _, _ =>
    have ha := State.romRead_of_bytesAtPc h (j := 0) rfl
    rw [State.fetch, State.fetchFrom_read ha]; simp [hd]
  | [a, b], h, hd, _, hm =>
    have ha := State.romRead_of_bytesAtPc h (j := 0) rfl
    have hb := State.romRead_of_bytesAtPc h (j := 1) rfl
    have m1 := hm [a] [b] (by simp) rfl
    rw [State.fetch, State.fetchFrom_read ha]
    simp only [List.nil_append, m1]
    rw [State.fetchFrom_read hb]; simp [hd]
  | a :: b :: c :: d, _, _, h2, _ => simp at h2

/-- A fetch past program memory or from a byte the image does not define faults. -/
theorem State.fetch_of_romRead_error {s : State} {f : Fault} (h : s.romRead s.pc.toNat = .error f) : s.fetch = .error f := by
  simp [State.fetch, State.fetchFrom, h]

/-- A fetch faults where the bytes so far ask for one more and that one cannot be read. -/
theorem State.fetch_of_needMore {s : State} {bs : List Byte} {f : Fault} (h : s.bytesAtPc bs) (hd : decode s.params bs = .needMore)
    (hr : s.romRead (s.pc.toNat + bs.length) = .error f) : s.fetch = .error f := by
  match bs, h, hd, hr, decode_needMore_length hd with
  | [], _, _, hr, _ => exact State.fetch_of_romRead_error hr
  | [a], h, hd, hr, _ =>
    rw [State.fetch, State.fetchFrom_read (State.romRead_of_bytesAtPc h (j := 0) rfl)]
    simp only [List.nil_append, hd]
    simp only [State.fetchFrom, hr]
  | [a, b], h, hd, hr, _ =>
    have m1 : decode s.params [a] = .needMore := decode_needMore_of_needMore (x := [b]) hd
    rw [State.fetch, State.fetchFrom_read (State.romRead_of_bytesAtPc h (j := 0) rfl)]
    simp only [List.nil_append, m1]
    rw [State.fetchFrom_read (State.romRead_of_bytesAtPc h (j := 1) rfl)]
    simp only [List.cons_append, List.nil_append, hd]
    simp only [State.fetchFrom, hr]
  | _ :: _ :: _ :: _, _, _, _, h2 => simp at h2

/-- A fetched instruction lies inside program memory, with all its bytes. -/
theorem State.fetch_length {s : State} {i : Instr} (h : s.fetch = .ok i) :
    s.pc.toNat + i.length ≤ s.params.chip.romSize := by
  have key : ∀ fuel got, s.fetchFrom fuel got = .ok i →
      ∃ bs rest, decode s.params bs = .instr i rest ∧ s.pc.toNat + bs.length ≤ s.params.chip.romSize := by
    intro fuel
    induction fuel with
    | zero => intro got h; cases h
    | succ n ih =>
      intro got h
      unfold State.fetchFrom at h
      split at h
      · cases h
      · next b hb =>
        have hlt := (State.romRead_ok_iff.1 hb).1
        split at h
        · next j rest hd => cases h; exact ⟨_, _, hd, by simp only [List.length_append, List.length_singleton]; omega⟩
        · cases h
        · exact ih _ h
  obtain ⟨bs, rest, hd, hl⟩ := key _ _ h
  have := decode_length hd
  omega

end Sys2Proof.Machine
end

