-- ==== Sys2Proof/Laws/Flags.lean ====
section
/-! SUPPORT. What the arithmetic and bit helpers compute, in terms of bit-vector and number arithmetic. -/

namespace Sys2Proof.Machine

theorem isz_eq (v : Nibble) : isz v = decide (v = 0#4) := by
  simp only [isz, beq_eq_decide]

@[simp] theorem add4_fst (a b : Nibble) (c : Bool) : (add4 a b c).1 = a + b + (BitVec.ofBool c).setWidth 4 := by
  apply BitVec.eq_of_toNat_eq
  cases c <;> simp [add4, bit]

@[simp] theorem add4_snd (a b : Nibble) (c : Bool) : (add4 a b c).2 = decide (16 ≤ a.toNat + b.toNat + c.toNat) := by
  cases c <;> simp [add4, bit]

@[simp] theorem sub4_fst (a b : Nibble) (bi : Bool) : (sub4 a b bi).1 = a - b - (BitVec.ofBool bi).setWidth 4 := by
  cases bi <;> revert a b <;> decide

@[simp] theorem sub4_snd (a b : Nibble) (bi : Bool) : (sub4 a b bi).2 = decide (b.toNat + bi.toNat ≤ a.toNat) := by
  cases bi <;> simp only [sub4, bit, decide_eq_decide, Bool.toNat_false, Bool.toNat_true, Bool.false_eq_true, if_true,
    if_false] <;> omega

/-- A carry out of an addition is not there exactly when the sum is below 16. -/
theorem not_carry (n : Nat) : (!decide (16 ≤ n)) = decide (n < 16) := by
  by_cases h : n < 16 <;> simp [h, Nat.not_le.2, Nat.not_lt.1]

theorem bitMask_eq (b : BitNo) : bitMask b = 1#4 <<< b.toNat := rfl

theorem clearBit_eq (v : Nibble) (b : BitNo) : clearBit v b = v &&& ~~~(1#4 <<< b.toNat) := rfl

theorem setBit_eq (v : Nibble) (b : BitNo) : setBit v b = v ||| (1#4 <<< b.toNat) := rfl

end Sys2Proof.Machine
end

