-- ==== Sys2Proof/Laws/PerInstr.lean ====
section
/-! SUPPORT. Statements about every instruction as syntax, one lemma per constructor. -/

namespace Sys2Proof.Laws.EncodeLength

/-- The encoding has as many bytes as the instruction's length says (30_encoding.md R90). -/
def Statement (i : Instr) : Prop := ∀ p : Params, (encode p i).length = i.length

theorem adcam : Statement .adcam := fun _ => rfl
theorem add (k : Nibble) (y : Nibble) : Statement (.add k y) := fun _ => rfl
theorem adda (k : Nibble) : Statement (.adda k) := fun _ => rfl
theorem addam : Statement .addam := fun _ => rfl
theorem addah (k : Nibble) : Statement (.addah k) := fun _ => rfl
theorem addl (k : Nibble) : Statement (.addl k) := fun _ => rfl
theorem addm (k : Nibble) : Statement (.addm k) := fun _ => rfl
theorem anda (k : Nibble) : Statement (.anda k) := fun _ => rfl
theorem andam : Statement .andam := fun _ => rfl
theorem andm (k : Nibble) : Statement (.andm k) := fun _ => rfl
theorem cgf : Statement .cgf := fun _ => rfl
theorem cil (r : Latches) : Statement (.cil r) := fun _ => rfl
theorem clm (b : BitNo) : Statement (.clm b) := fun _ => rfl
theorem clp (p : Nibble) (b : BitNo) : Statement (.clp p b) := fun _ => rfl
theorem clpl : Statement .clpl := fun _ => rfl
theorem clr (y : Nibble) (b : BitNo) : Statement (.clr y b) := fun _ => rfl
theorem cmp (k : Nibble) (y : Nibble) : Statement (.cmp k y) := fun _ => rfl
theorem cmpa (x : DataAddr) : Statement (.cmpa x) := fun _ => rfl
theorem cmpm : Statement .cmpm := fun _ => rfl
theorem cmph (k : Nibble) : Statement (.cmph k) := fun _ => rfl
theorem cmpia (k : Nibble) : Statement (.cmpia k) := fun _ => rfl
theorem cmpl (k : Nibble) : Statement (.cmpl k) := fun _ => rfl
theorem deca : Statement .deca := fun _ => rfl
theorem decl : Statement .decl := fun _ => rfl
theorem decm : Statement .decm := fun _ => rfl
theorem dicil (r : Latches) : Statement (.dicil r) := fun _ => rfl
theorem eicil (r : Latches) : Statement (.eicil r) := fun _ => rfl
theorem exa (x : DataAddr) : Statement (.exa x) := fun _ => rfl
theorem exae : Statement .exae := fun _ => rfl
theorem exah : Statement .exah := fun _ => rfl
theorem exal : Statement .exal := fun _ => rfl
theorem exam : Statement .exam := fun _ => rfl
theorem exhl (x : DataAddr) : Statement (.exhl x) := fun _ => rfl
theorem ina (p : Nibble) : Statement (.ina p) := fun _ => rfl
theorem inca : Statement .inca := fun _ => rfl
theorem incl : Statement .incl := fun _ => rfl
theorem incm : Statement .incm := fun _ => rfl
theorem inm (p : Nibble) : Statement (.inm p) := fun _ => rfl
theorem lbr (a : BitVec 12) : Statement (.lbr a) := fun _ => rfl
theorem lcall (a : BitVec 11) : Statement (.lcall a) := fun _ => rfl
theorem lda (x : DataAddr) : Statement (.lda x) := fun _ => rfl
theorem ldadpl : Statement .ldadpl := fun _ => rfl
theorem ldadpm : Statement .ldadpm := fun _ => rfl
theorem ldadph : Statement .ldadph := fun _ => rfl
theorem ldam : Statement .ldam := fun _ => rfl
theorem ldasp : Statement .ldasp := fun _ => rfl
theorem ldatal : Statement .ldatal := fun _ => rfl
theorem ldatam : Statement .ldatam := fun _ => rfl
theorem ldatah : Statement .ldatah := fun _ => rfl
theorem ldatbl : Statement .ldatbl := fun _ => rfl
theorem ldatbm : Statement .ldatbm := fun _ => rfl
theorem ldatbh : Statement .ldatbh := fun _ => rfl
theorem ldax : Statement .ldax := fun _ => rfl
theorem ldaxi : Statement .ldaxi := fun _ => rfl
theorem ldh (k : Nibble) : Statement (.ldh k) := fun _ => rfl
theorem ldhl (x : DataAddr) : Statement (.ldhl x) := fun _ => rfl
theorem ldia (k : Nibble) : Statement (.ldia k) := fun _ => rfl
theorem ldl (k : Nibble) : Statement (.ldl k) := fun _ => rfl
theorem nop : Statement .nop := fun _ => rfl
theorem ora (k : Nibble) : Statement (.ora k) := fun _ => rfl
theorem oram : Statement .oram := fun _ => rfl
theorem orm (k : Nibble) : Statement (.orm k) := fun _ => rfl
theorem out (k : Nibble) (p : Nibble) : Statement (.out k p) := fun _ => rfl
theorem outa (p : PortNo) : Statement (.outa p) := fun _ => rfl
theorem out12 : Statement .out12 := fun _ => rfl
theorem ret : Statement .ret := fun _ => rfl
theorem rlca : Statement .rlca := fun _ => rfl
theorem rrca : Statement .rrca := fun _ => rfl
theorem rti : Statement .rti := fun _ => rfl
theorem sbcam : Statement .sbcam := fun _ => rfl
theorem sbr (a : BitVec 6) : Statement (.sbr a) := fun _ => rfl
theorem scall (n : Nibble) : Statement (.scall n) := fun _ => rfl
theorem sem (b : BitNo) : Statement (.sem b) := fun _ => rfl
theorem sep (p : Nibble) (b : BitNo) : Statement (.sep p b) := fun _ => rfl
theorem sepl : Statement .sepl := fun _ => rfl
theorem set (y : Nibble) (b : BitNo) : Statement (.set y b) := fun _ => rfl
theorem sgf : Statement .sgf := fun _ => rfl
theorem slbr (a : BitVec 13) : Statement (.slbr a) := fun _ => rfl
theorem sta (x : DataAddr) : Statement (.sta x) := fun _ => rfl
theorem stadpl : Statement .stadpl := fun _ => rfl
theorem stadpm : Statement .stadpm := fun _ => rfl
theorem stadph : Statement .stadph := fun _ => rfl
theorem stam : Statement .stam := fun _ => rfl
theorem stamd : Statement .stamd := fun _ => rfl
theorem stami : Statement .stami := fun _ => rfl
theorem stasp : Statement .stasp := fun _ => rfl
theorem statal : Statement .statal := fun _ => rfl
theorem statam : Statement .statam := fun _ => rfl
theorem statah : Statement .statah := fun _ => rfl
theorem statbl : Statement .statbl := fun _ => rfl
theorem statbm : Statement .statbm := fun _ => rfl
theorem statbh : Statement .statbh := fun _ => rfl
theorem std (k : Nibble) (y : Nibble) : Statement (.std k y) := fun _ => rfl
theorem stdmi (k : Nibble) : Statement (.stdmi k) := fun _ => rfl
theorem suba (k : Nibble) : Statement (.suba k) := fun _ => rfl
theorem subm (k : Nibble) : Statement (.subm k) := fun _ => rfl
theorem tfa (b : BitNo) : Statement (.tfa b) := fun _ => rfl
theorem tfcfc : Statement .tfcfc := fun _ => rfl
theorem tfm (b : BitNo) : Statement (.tfm b) := fun _ => rfl
theorem tfp (p : Nibble) (b : BitNo) : Statement (.tfp p b) := fun _ => rfl
theorem tfpl : Statement .tfpl := fun _ => rfl
theorem tgs : Statement .tgs := fun _ => rfl
theorem tha : Statement .tha := fun _ => rfl
theorem tla : Statement .tla := fun _ => rfl
theorem tt (y : Nibble) (b : BitNo) : Statement (.tt y b) := fun _ => rfl
theorem ttcfs : Statement .ttcfs := fun _ => rfl
theorem ttp (p : Nibble) (b : BitNo) : Statement (.ttp p b) := fun _ => rfl
theorem tzs : Statement .tzs := fun _ => rfl
theorem xoram : Statement .xoram := fun _ => rfl

end Sys2Proof.Laws.EncodeLength
end

