-- ==== Sys2Proof/Tests/Slice0.lean ====
section
/-! SUPPORT. Tests by hand. Bytes are written out from the encodings of 30_encoding.md and from the vectors of 95_test_vectors.md (V<n>),
and so are the expected results: none was taken from the model. The witnesses at the end meet the hypotheses of the statements. -/

namespace Sys2Proof.Tests

open Sys2Proof.Machine

/-! ### The check of well-formedness: one ill-formed term for each thing it checks -/

/-- The default parameters on another chip. -/
def onChip (c : Chip) : Params := { Params.default with chip := c }

theorem test_wf_general_flag_needs_chip : Instr.wf (onChip .rom8K) .cgf = false ∧ Instr.wf (onChip .rom8K) .sgf = false ∧
    Instr.wf (onChip .rom8K) .tgs = false ∧ Instr.wf (onChip .rom4K) .cgf = true := by decide

theorem test_wf_slbr_needs_chip_and_prefix : Instr.wf (onChip .rom4K) (.slbr 0#13) = false ∧
    Instr.wf { onChip .rom8K with slbrPrefix := none } (.slbr 0#13) = false ∧ Instr.wf (onChip .rom8K) (.slbr 0#13) = true := by
  decide

theorem test_wf_exae_needs_opcode : Instr.wf { Params.default with exaeOpcode := none } .exae = false ∧
    Instr.wf Params.default .exae = true := by decide

theorem test_wf_pair_address_aligned : Instr.wf Params.default (.ldhl 0x21#8) = false ∧
    Instr.wf Params.default (.exhl 0x22#8) = false ∧ Instr.wf Params.default (.ldhl 0x20#8) = true := by decide

theorem test_wf_window_address : Instr.wf Params.default (.lda 0xF4#8) = false ∧
    Instr.wf Params.default (.sta 0xFF#8) = false ∧ Instr.wf Params.default (.lda 0xF7#8) = true := by decide

theorem test_wf_sep_port_zero : Instr.wf Params.default (.sep 0#4 1#2) = false ∧
    Instr.wf Params.default (.sep 1#4 0#2) = true := by decide

/-- 00_scope.md R5: RAM_SIZE 16..240; 30_encoding.md R114 and R103: the parameter bytes; 60_exceptions.md R402: each latch once. -/
theorem test_wf_params : Params.default.wf = true ∧ { Params.default with ramSize := 15 }.wf = false ∧
    { Params.default with ramSize := 241 }.wf = false ∧ { Params.default with exaeOpcode := some 0x76#8 }.wf = false ∧
    { Params.default with slbrPrefix := some (0x57#8, 0x57#8) }.wf = false ∧
    { Params.default with slbrPrefix := some (0x57#8, 0x54#8) }.wf = false ∧ { Params.default with slbrPrefix := some (0x55#8, 0x57#8) }.wf = true ∧
    { Params.default with slbrPrefix := some (0x57#8, 0x75#8) }.wf = false ∧
    { Params.default with intConfig := some [⟨0, 2#13, 0#16⟩] }.wf = false := by decide

/-! ### Every row of the opcode table decodes -/

/-- The bytes are this instruction, on the 4K chip. -/
def decodesTo (bytes : List Byte) (i : Instr) : Bool := decode Params.default bytes == .instr i []

/-- The bytes are this instruction, on the 8K chip. -/
def decodesTo8K (bytes : List Byte) (i : Instr) : Bool := decode (onChip .rom8K) bytes == .instr i []

theorem test_decode_arithmetic_logic_compare :
    decodesTo [0x70#8] .adcam = true ∧
    decodesTo [0x49#8, 0x96#8] (.add 0x9#4 0x6#4) = true ∧
    decodesTo [0x6E#8, 0x59#8] (.adda 0x9#4) = true ∧
    decodesTo [0x71#8] .addam = true ∧
    decodesTo [0x6E#8, 0x99#8] (.addah 0x9#4) = true ∧
    decodesTo [0x6E#8, 0x19#8] (.addl 0x9#4) = true ∧
    decodesTo [0x6E#8, 0xD9#8] (.addm 0x9#4) = true ∧
    decodesTo [0x6E#8, 0x69#8] (.anda 0x9#4) = true ∧
    decodesTo [0x7B#8] .andam = true ∧
    decodesTo [0x6E#8, 0xE9#8] (.andm 0x9#4) = true ∧
    decodesTo [0x57#8] .cgf = true ∧
    decodesTo [0x63#8, 0xA9#8] (.cil 0x29#6) = true ∧
    decodesTo [0xF2#8] (.clm 0x2#2) = true ∧
    decodesTo [0x6D#8, 0xEB#8] (.clp 0xB#4 0x2#2) = true ∧
    decodesTo [0x60#8] .clpl = true ∧
    decodesTo [0x6C#8, 0xE6#8] (.clr 0x6#4 0x2#2) = true ∧
    decodesTo [0x4B#8, 0x96#8] (.cmp 0x9#4 0x6#4) = true ∧
    decodesTo [0x6B#8, 0x34#8] (.cmpa 0x34#8) = true ∧
    decodesTo [0x73#8] .cmpm = true ∧
    decodesTo [0x6E#8, 0xB9#8] (.cmph 0x9#4) = true ∧
    decodesTo [0xB9#8] (.cmpia 0x9#4) = true ∧
    decodesTo [0x6E#8, 0x39#8] (.cmpl 0x9#4) = true := by decide

theorem test_decode_decrement_to_inm :
    decodesTo [0x5C#8] .deca = true ∧
    decodesTo [0x7C#8] .decl = true ∧
    decodesTo [0x5D#8] .decm = true ∧
    decodesTo [0x63#8, 0x29#8] (.dicil 0x29#6) = true ∧
    decodesTo [0x63#8, 0xE9#8] (.eicil 0x29#6) = true ∧
    decodesTo [0x68#8, 0x34#8] (.exa 0x34#8) = true ∧
    decodesTo [0x75#8] .exae = true ∧
    decodesTo [0x66#8] .exah = true ∧
    decodesTo [0x64#8] .exal = true ∧
    decodesTo [0x58#8] .exam = true ∧
    decodesTo [0x4C#8, 0x34#8] (.exhl 0x34#8) = true ∧
    decodesTo [0x6F#8, 0x4B#8] (.ina 0xB#4) = true ∧
    decodesTo [0x5E#8] .inca = true ∧
    decodesTo [0x7E#8] .incl = true ∧
    decodesTo [0x5F#8] .incm = true ∧
    decodesTo [0x6F#8, 0xCB#8] (.inm 0xB#4) = true := by decide

theorem test_decode_branch_to_ldl :
    decodesTo [0xC9#8, 0xA3#8] (.lbr 0x9A3#12) = true ∧
    decodesTo [0x45#8, 0xA3#8] (.lcall 0x5A3#11) = true ∧
    decodesTo [0x6A#8, 0x34#8] (.lda 0x34#8) = true ∧
    decodesTo [0x6A#8, 0xFC#8] .ldadpl = true ∧
    decodesTo [0x6A#8, 0xFD#8] .ldadpm = true ∧
    decodesTo [0x6A#8, 0xFE#8] .ldadph = true ∧
    decodesTo [0x5A#8] .ldam = true ∧
    decodesTo [0x6A#8, 0xFF#8] .ldasp = true ∧
    decodesTo [0x6A#8, 0xF4#8] .ldatal = true ∧
    decodesTo [0x6A#8, 0xF5#8] .ldatam = true ∧
    decodesTo [0x6A#8, 0xF6#8] .ldatah = true ∧
    decodesTo [0x6A#8, 0xF8#8] .ldatbl = true ∧
    decodesTo [0x6A#8, 0xF9#8] .ldatbm = true ∧
    decodesTo [0x6A#8, 0xFA#8] .ldatbh = true ∧
    decodesTo [0x65#8] .ldax = true ∧
    decodesTo [0x67#8] .ldaxi = true ∧
    decodesTo [0x99#8] (.ldh 0x9#4) = true ∧
    decodesTo [0x4E#8, 0x34#8] (.ldhl 0x34#8) = true ∧
    decodesTo [0xD9#8] (.ldia 0x9#4) = true ∧
    decodesTo [0x89#8] (.ldl 0x9#4) = true := by decide

theorem test_decode_nop_to_sgf :
    decodesTo [0x56#8] .nop = true ∧
    decodesTo [0x6E#8, 0x49#8] (.ora 0x9#4) = true ∧
    decodesTo [0x78#8] .oram = true ∧
    decodesTo [0x6E#8, 0xC9#8] (.orm 0x9#4) = true ∧
    decodesTo [0x4A#8, 0x9B#8] (.out 0x9#4 0xB#4) = true ∧
    decodesTo [0x6F#8, 0x17#8] (.outa 0x17#5) = true ∧
    decodesTo [0x77#8] .out12 = true ∧
    decodesTo [0x4F#8] .ret = true ∧
    decodesTo [0x50#8] .rlca = true ∧
    decodesTo [0x51#8] .rrca = true ∧
    decodesTo [0x4D#8] .rti = true ∧
    decodesTo [0x72#8] .sbcam = true ∧
    decodesTo [0x29#8] (.sbr 0x29#6) = true ∧
    decodesTo [0xE5#8] (.scall 0x5#4) = true ∧
    decodesTo [0xF6#8] (.sem 0x2#2) = true ∧
    decodesTo [0x6D#8, 0x6B#8] (.sep 0xB#4 0x2#2) = true ∧
    decodesTo [0x62#8] .sepl = true ∧
    decodesTo [0x6C#8, 0x66#8] (.set 0x6#4 0x2#2) = true ∧
    decodesTo [0x55#8] .sgf = true := by decide

theorem test_decode_slbr_to_subm :
    decodesTo8K [0x55#8, 0xC5#8, 0xA3#8] (.slbr 0x15A3#13) = true ∧
    decodesTo [0x69#8, 0x34#8] (.sta 0x34#8) = true ∧
    decodesTo [0x69#8, 0xFC#8] .stadpl = true ∧
    decodesTo [0x69#8, 0xFD#8] .stadpm = true ∧
    decodesTo [0x69#8, 0xFE#8] .stadph = true ∧
    decodesTo [0x59#8] .stam = true ∧
    decodesTo [0x7D#8] .stamd = true ∧
    decodesTo [0x7F#8] .stami = true ∧
    decodesTo [0x69#8, 0xFF#8] .stasp = true ∧
    decodesTo [0x69#8, 0xF4#8] .statal = true ∧
    decodesTo [0x69#8, 0xF5#8] .statam = true ∧
    decodesTo [0x69#8, 0xF6#8] .statah = true ∧
    decodesTo [0x69#8, 0xF8#8] .statbl = true ∧
    decodesTo [0x69#8, 0xF9#8] .statbm = true ∧
    decodesTo [0x69#8, 0xFA#8] .statbh = true ∧
    decodesTo [0x48#8, 0x96#8] (.std 0x9#4 0x6#4) = true ∧
    decodesTo [0xA9#8] (.stdmi 0x9#4) = true ∧
    decodesTo [0x6E#8, 0x79#8] (.suba 0x9#4) = true ∧
    decodesTo [0x6E#8, 0xF9#8] (.subm 0x9#4) = true := by decide

theorem test_decode_tests_to_xoram :
    decodesTo [0xFA#8] (.tfa 0x2#2) = true ∧
    decodesTo [0x53#8] .tfcfc = true ∧
    decodesTo [0xFE#8] (.tfm 0x2#2) = true ∧
    decodesTo [0x6D#8, 0x2B#8] (.tfp 0xB#4 0x2#2) = true ∧
    decodesTo [0x61#8] .tfpl = true ∧
    decodesTo [0x54#8] .tgs = true ∧
    decodesTo [0x76#8] .tha = true ∧
    decodesTo [0x74#8] .tla = true ∧
    decodesTo [0x6C#8, 0xA6#8] (.tt 0x6#4 0x2#2) = true ∧
    decodesTo [0x52#8] .ttcfs = true ∧
    decodesTo [0x6D#8, 0xAB#8] (.ttp 0xB#4 0x2#2) = true ∧
    decodesTo [0x5B#8] .tzs = true ∧
    decodesTo [0x79#8] .xoram = true := by decide

/-- The two parameters that DOI leaves open can take their other values (30_encoding.md R103, R114). -/
theorem test_decode_parameters :
    decode { Params.default with exaeOpcode := some 0x7A#8 } [0x7A#8] = .instr .exae [] ∧
    decode { Params.default with exaeOpcode := some 0x7A#8 } [0x75#8] = .reserved .firstByte [0x75#8] ∧
    decode { Params.default with exaeOpcode := none } [0x75#8] = .reserved .firstByte [0x75#8] ∧
    decode { onChip .rom8K with slbrPrefix := some (0x55#8, 0x57#8) } [0x57#8, 0xC0#8, 0x01#8] = .instr (.slbr 0x1001#13) [] ∧
    decode { onChip .rom8K with slbrPrefix := none } [0x57#8, 0xC0#8, 0x01#8] = .reserved .chip8K [0x57#8] ∧
    decode (onChip .rom8K) [0x57#8, 0x10#8] = .reserved .slbrSecondByte [0x57#8, 0x10#8] ∧
    decode (onChip .rom8K) [0x57#8, 0xC0#8] = .needMore := by decide

/-- 54h on the 8K chip is reserved whatever SLBR_PREFIX is, and so are 75h and 7Ah that are not EXAE_OPCODE (30_encoding.md R108, R109,
decision D26, vector F10): even an SLBR_PREFIX that names them, which is not lawful, changes nothing. -/
theorem test_decode_first_bytes_never_slbr :
    decode (onChip .rom8K) [0x54#8, 0xC0#8, 0x01#8] = .reserved .chip8K [0x54#8] ∧
    decode { onChip .rom8K with slbrPrefix := some (0x54#8, 0x55#8) } [0x54#8, 0xC0#8, 0x01#8] = .reserved .chip8K [0x54#8] ∧
    decode { onChip .rom8K with slbrPrefix := some (0x7A#8, 0x55#8) } [0x7A#8, 0xC0#8, 0x01#8] = .reserved .firstByte [0x7A#8] := by decide

/-- Reserved second bytes (30_encoding.md R108; vectors F1 to F9 of 95_test_vectors.md use such bytes). -/
theorem test_decode_reserved :
    decode Params.default [0x7A#8] = .reserved .firstByte [0x7A#8] ∧
    decode Params.default [0x63#8, 0x40#8] = .reserved .latchGroup [0x63#8, 0x40#8] ∧
    decode Params.default [0x6C#8, 0x3F#8] = .reserved .bitGroup [0x6C#8, 0x3F#8] ∧
    decode Params.default [0x6E#8, 0xA7#8] = .reserved .immediateGroup [0x6E#8, 0xA7#8] ∧
    decode Params.default [0x6F#8, 0x50#8] = .reserved .portGroup [0x6F#8, 0x50#8] ∧
    decode Params.default [0x4C#8, 0x21#8] = .reserved .unalignedPair [0x4C#8, 0x21#8] ∧
    decode Params.default [0x6D#8, 0x50#8] = .reserved .sepPortZero [0x6D#8, 0x50#8] := by decide

/-- The table's numbering, first byte most significant (30_encoding.md R91), and the chip that has the instruction. -/
theorem test_decodeTableWord :
    decodeTableWord 8 0x70 = some .adcam ∧ decodeTableWord 16 0x4935 = some (.add 3#4 5#4) ∧
    decodeTableWord 24 0x55C234 = some (.slbr 0x1234#13) ∧ decodeTableWord 8 0x57 = some .cgf ∧
    decodeTableWord 16 0x6D50 = none := by decide

/-- A table word placed for the fetch is the instruction the first step runs. -/
theorem test_withFetchWord :
    (State.reset.withFetchWord 16 0x4935).fetch = .ok (.add 3#4 5#4) ∧
    (State.reset.withFetchWord 24 0x55C234).fetch = .ok (.slbr 0x1234#13) ∧
    (State.reset.withFetchWord 8 0x4F).fetch = .ok .ret := by decide

/-! ### One step of every instruction -/

/-- The reset state of a chip with all ports readable and writable (the conventions of 95_test_vectors.md), the bytes at an address and PC
there. -/
def placed (c : Chip) (a : Nat) (bytes : List Byte) : State :=
  { State.reset with
    params := { Params.default with chip := c, readable := 0xFFFFFFFF#32 }, pc := BitVec.ofNat 14 a, rom := placeBytes [] a bytes }

/-- One step from there, with more of the state set, ends in a next state that passes the check. -/
def runs (c : Chip) (a : Nat) (bytes : List Byte) (set : State → State) (check : State → Bool) : Bool :=
  match step (set (placed c a bytes)) with
  | .next t => check t
  | _ => false

/-- Six sources, none of which any value of EIR enables. -/
def quietSources : List IntSource :=
  [⟨0, 2#13, 0#16⟩, ⟨1, 4#13, 0#16⟩, ⟨2, 6#13, 0#16⟩, ⟨3, 8#13, 0#16⟩, ⟨4, 10#13, 0#16⟩, ⟨5, 12#13, 0#16⟩]

/-- R201: V1 and V5 of 95_test_vectors.md. -/
theorem test_adcam :
    runs .rom4K 0x0000 [0x70#8] (fun s => { s with acc := 0x9#4, hr := 0x2#4, lr := 0x5#4, cf := true, ram := [(0x25, 0x8#4)] })
      (fun t => t.acc == 0x2#4 && t.hr == 0x2#4 && t.lr == 0x5#4 && t.pc == 0x1#14 && t.cf && !t.zf && !t.sf && t.ram.read 0x25 == some 0x8#4) = true ∧
    runs .rom4K 0x0000 [0x70#8] (fun s => { s with acc := 0xF#4, hr := 0x0#4, lr := 0x0#4, cf := true, ram := [(0x0, 0xF#4)] })
      (fun t => t.acc == 0xF#4 && t.hr == 0x0#4 && t.lr == 0x0#4 && t.pc == 0x1#14 && t.cf && !t.zf && !t.sf && t.ram.read 0x0 == some 0xF#4) = true := by decide

/-- R202: V6 and V10 of 95_test_vectors.md. -/
theorem test_add :
    runs .rom4K 0x0000 [0x49#8, 0x35#8] (fun s => { s with ram := [(0x5, 0xE#4)] })
      (fun t => t.pc == 0x2#14 && !t.cf && !t.zf && !t.sf && t.ram.read 0x5 == some 0x1#4) = true ∧
    runs .rom4K 0x0000 [0x49#8, 0x03#8] (fun s => { s with ram := [(0x3, 0x7#4)] })
      (fun t => t.pc == 0x2#14 && !t.zf && t.sf && t.ram.read 0x3 == some 0x7#4) = true := by decide

/-- R203: V11 and V15 of 95_test_vectors.md. -/
theorem test_adda :
    runs .rom4K 0x0000 [0x6E#8, 0x53#8] (fun s => { s with acc := 0x4#4, cf := true })
      (fun t => t.acc == 0x7#4 && t.pc == 0x2#14 && t.cf && !t.zf && t.sf) = true ∧
    runs .rom4K 0x0000 [0x6E#8, 0x50#8] (fun s => { s with acc := 0x0#4 })
      (fun t => t.acc == 0x0#4 && t.pc == 0x2#14 && t.zf && t.sf) = true := by decide

/-- R204: V16 and V17 of 95_test_vectors.md. -/
theorem test_addam :
    runs .rom4K 0x0000 [0x71#8] (fun s => { s with acc := 0x3#4, hr := 0x1#4, lr := 0x0#4, cf := true, ram := [(0x10, 0x4#4)] })
      (fun t => t.acc == 0x7#4 && t.hr == 0x1#4 && t.lr == 0x0#4 && t.pc == 0x1#14 && t.cf && !t.zf && t.sf && t.ram.read 0x10 == some 0x4#4) = true ∧
    runs .rom4K 0x0000 [0x71#8] (fun s => { s with acc := 0x8#4, hr := 0x1#4, lr := 0x0#4, ram := [(0x10, 0x8#4)] })
      (fun t => t.acc == 0x0#4 && t.hr == 0x1#4 && t.lr == 0x0#4 && t.pc == 0x1#14 && !t.cf && t.zf && !t.sf && t.ram.read 0x10 == some 0x8#4) = true := by decide

/-- R205: V18 and V21 of 95_test_vectors.md. -/
theorem test_addah :
    runs .rom4K 0x0000 [0x6E#8, 0x91#8] (fun s => { s with hr := 0x2#4, lr := 0x7#4 })
      (fun t => t.hr == 0x3#4 && t.lr == 0x7#4 && t.pc == 0x2#14 && !t.cf && !t.zf && t.sf) = true ∧
    runs .rom4K 0x0000 [0x6E#8, 0x9F#8] (fun s => { s with hr := 0xF#4 })
      (fun t => t.hr == 0xE#4 && t.pc == 0x2#14 && !t.zf && !t.sf) = true := by decide

/-- R206: V22 and V24 of 95_test_vectors.md. -/
theorem test_addl :
    runs .rom4K 0x0000 [0x6E#8, 0x14#8] (fun s => { s with hr := 0x3#4, lr := 0x5#4 })
      (fun t => t.hr == 0x3#4 && t.lr == 0x9#4 && t.pc == 0x2#14 && !t.cf && !t.zf && t.sf) = true ∧
    runs .rom4K 0x0000 [0x6E#8, 0x11#8] (fun s => { s with hr := 0x3#4, lr := 0xF#4 })
      (fun t => t.hr == 0x3#4 && t.lr == 0x0#4 && t.pc == 0x2#14 && t.zf && !t.sf) = true := by decide

/-- R207: V25 and V27 of 95_test_vectors.md. -/
theorem test_addm :
    runs .rom4K 0x0000 [0x6E#8, 0xD2#8] (fun s => { s with hr := 0x2#4, lr := 0x0#4, ram := [(0x20, 0x3#4)] })
      (fun t => t.hr == 0x2#4 && t.lr == 0x0#4 && t.pc == 0x2#14 && !t.cf && !t.zf && t.sf && t.ram.read 0x20 == some 0x5#4) = true ∧
    runs .rom4K 0x0000 [0x6E#8, 0xD8#8] (fun s => { s with hr := 0x1#4, lr := 0x2#4, ram := [(0x12, 0x8#4)] })
      (fun t => t.hr == 0x1#4 && t.lr == 0x2#4 && t.pc == 0x2#14 && t.zf && !t.sf && t.ram.read 0x12 == some 0x0#4) = true := by decide

/-- R208: V28 and V29 of 95_test_vectors.md. -/
theorem test_anda :
    runs .rom4K 0x0000 [0x6E#8, 0x6C#8] (fun s => { s with acc := 0xA#4 })
      (fun t => t.acc == 0x8#4 && t.pc == 0x2#14 && !t.zf && t.sf) = true ∧
    runs .rom4K 0x0000 [0x6E#8, 0x65#8] (fun s => { s with acc := 0xA#4 })
      (fun t => t.acc == 0x0#4 && t.pc == 0x2#14 && t.zf && !t.sf) = true := by decide

/-- R209: V30 and V32 of 95_test_vectors.md. -/
theorem test_andam :
    runs .rom4K 0x0000 [0x7B#8] (fun s => { s with acc := 0xE#4, hr := 0x0#4, lr := 0x3#4, ram := [(0x3, 0x7#4)] })
      (fun t => t.acc == 0x6#4 && t.hr == 0x0#4 && t.lr == 0x3#4 && t.pc == 0x1#14 && !t.zf && t.sf && t.ram.read 0x3 == some 0x7#4) = true ∧
    runs .rom4K 0x0000 [0x7B#8] (fun s => { s with acc := 0xA#4, hr := 0x0#4, lr := 0x1#4, ram := [(0x1, 0x5#4)] })
      (fun t => t.acc == 0x0#4 && t.hr == 0x0#4 && t.lr == 0x1#4 && t.pc == 0x1#14 && t.zf && !t.sf && t.ram.read 0x1 == some 0x5#4) = true := by decide

/-- R210: V33 and V34 of 95_test_vectors.md. -/
theorem test_andm :
    runs .rom4K 0x0000 [0x6E#8, 0xE3#8] (fun s => { s with hr := 0x1#4, lr := 0x2#4, ram := [(0x12, 0xA#4)] })
      (fun t => t.hr == 0x1#4 && t.lr == 0x2#4 && t.pc == 0x2#14 && !t.zf && t.sf && t.ram.read 0x12 == some 0x2#4) = true ∧
    runs .rom4K 0x0000 [0x6E#8, 0xE5#8] (fun s => { s with hr := 0x1#4, lr := 0x2#4, ram := [(0x12, 0xA#4)] })
      (fun t => t.hr == 0x1#4 && t.lr == 0x2#4 && t.pc == 0x2#14 && t.zf && !t.sf && t.ram.read 0x12 == some 0x0#4) = true := by decide

/-- R211: V35 and V36 of 95_test_vectors.md. -/
theorem test_cgf :
    runs .rom4K 0x0000 [0x57#8] (fun s => { s with gf := true })
      (fun t => t.pc == 0x1#14 && t.sf && !t.gf) = true ∧
    runs .rom4K 0x0000 [0x57#8] (fun s => { s with sf := true })
      (fun t => t.pc == 0x1#14 && t.sf && !t.gf) = true := by decide

/-- R212: V37 and V38 of 95_test_vectors.md. -/
theorem test_cil :
    runs .rom4K 0x0000 [0x63#8, 0xBD#8] (fun s => { s with params := { s.params with intConfig := some quietSources }, il := 0x3#6, eif := true })
      (fun t => t.il == 0x1#6 && t.pc == 0x2#14 && t.sf && t.eif) = true ∧
    runs .rom4K 0x0000 [0x63#8, 0x80#8] (fun s => { s with il := 0x3F#6, eif := false })
      (fun t => t.il == 0x0#6 && t.pc == 0x2#14 && t.sf && !t.eif) = true := by decide

/-- R213: V39 and V40 of 95_test_vectors.md. -/
theorem test_clm :
    runs .rom4K 0x0000 [0xF2#8] (fun s => { s with hr := 0x3#4, lr := 0x1#4, ram := [(0x31, 0xF#4)] })
      (fun t => t.hr == 0x3#4 && t.lr == 0x1#4 && t.pc == 0x1#14 && !t.zf && t.sf && t.ram.read 0x31 == some 0xB#4) = true ∧
    runs .rom4K 0x0000 [0xF0#8] (fun s => { s with hr := 0x3#4, lr := 0x1#4, ram := [(0x31, 0x1#4)] })
      (fun t => t.hr == 0x3#4 && t.lr == 0x1#4 && t.pc == 0x1#14 && !t.zf && t.sf && t.ram.read 0x31 == some 0x0#4) = true := by decide

/-- R214: V41 and V43 of 95_test_vectors.md. -/
theorem test_clp :
    runs .rom4K 0x0000 [0x6D#8, 0xE5#8] (fun s => { s with portOut := s.portOut.set 5 0xF#4 })
      (fun t => t.pc == 0x2#14 && t.sf && t.portOut[5] == 0xB#4 && t.events == [.write 5#5 0xB#4]) = true ∧
    runs .rom4K 0x0000 [0x6D#8, 0xC3#8] (fun s => { s with portOut := s.portOut.set 3 0xE#4 })
      (fun t => t.pc == 0x2#14 && t.sf && t.portOut[3] == 0xE#4 && t.events == [.write 3#5 0xE#4]) = true := by decide

/-- R215: V44 and V45 of 95_test_vectors.md. -/
theorem test_clpl :
    runs .rom4K 0x0000 [0x60#8] (fun s => { s with lr := 0x6#4, portOut := s.portOut.set 5 0xF#4 })
      (fun t => t.lr == 0x6#4 && t.pc == 0x1#14 && t.sf && t.portOut[5] == 0xB#4 && t.events == [.write 5#5 0xB#4]) = true ∧
    runs .rom4K 0x0000 [0x60#8] (fun s => { s with lr := 0xF#4, portOut := s.portOut.set 7 0x8#4 })
      (fun t => t.lr == 0xF#4 && t.pc == 0x1#14 && t.sf && t.portOut[7] == 0x0#4 && t.events == [.write 7#5 0x0#4]) = true := by decide

/-- R216: V46 and V48 of 95_test_vectors.md. -/
theorem test_clr :
    runs .rom4K 0x0000 [0x6C#8, 0xF2#8] (fun s => { s with ram := [(0x2, 0xF#4)] })
      (fun t => t.pc == 0x2#14 && t.sf && t.ram.read 0x2 == some 0x7#4) = true ∧
    runs .rom4K 0x0000 [0x6C#8, 0xFF#8] (fun s => { s with ram := [(0xf, 0x8#4)] })
      (fun t => t.pc == 0x2#14 && t.sf && t.ram.read 0xf == some 0x0#4) = true := by decide

/-- R217: V49 and V52 of 95_test_vectors.md. -/
theorem test_cmp :
    runs .rom4K 0x0000 [0x4B#8, 0x53#8] (fun s => { s with ram := [(0x3, 0x5#4)] })
      (fun t => t.pc == 0x2#14 && t.cf && t.zf && !t.sf && t.ram.read 0x3 == some 0x5#4) = true ∧
    runs .rom4K 0x0000 [0x4B#8, 0x53#8] (fun s => { s with ram := [(0x3, 0x4#4)] })
      (fun t => t.pc == 0x2#14 && t.cf && !t.zf && t.sf && t.ram.read 0x3 == some 0x4#4) = true := by decide

/-- R218: V53 and V56 of 95_test_vectors.md. -/
theorem test_cmpa :
    runs .rom4K 0x0000 [0x6B#8, 0x40#8] (fun s => { s with acc := 0x3#4, ram := [(0x40, 0x9#4)] })
      (fun t => t.acc == 0x3#4 && t.pc == 0x2#14 && t.cf && !t.zf && t.sf && t.ram.read 0x40 == some 0x9#4) = true ∧
    runs .rom4K 0x0000 [0x6B#8, 0x20#8] (fun s => { s with acc := 0x0#4, ram := [(0x20, 0x0#4)] })
      (fun t => t.acc == 0x0#4 && t.pc == 0x2#14 && t.cf && t.zf && !t.sf && t.ram.read 0x20 == some 0x0#4) = true := by decide

/-- R219: V57 and V58 of 95_test_vectors.md. -/
theorem test_cmpm :
    runs .rom4K 0x0000 [0x73#8] (fun s => { s with acc := 0x7#4, hr := 0x0#4, lr := 0x8#4, ram := [(0x8, 0x7#4)] })
      (fun t => t.acc == 0x7#4 && t.hr == 0x0#4 && t.lr == 0x8#4 && t.pc == 0x1#14 && t.cf && t.zf && !t.sf && t.ram.read 0x8 == some 0x7#4) = true ∧
    runs .rom4K 0x0000 [0x73#8] (fun s => { s with acc := 0x7#4, hr := 0x0#4, lr := 0x8#4, ram := [(0x8, 0x2#4)] })
      (fun t => t.acc == 0x7#4 && t.hr == 0x0#4 && t.lr == 0x8#4 && t.pc == 0x1#14 && !t.cf && !t.zf && t.sf && t.ram.read 0x8 == some 0x2#4) = true := by decide

/-- R220: V59 and V61 of 95_test_vectors.md. -/
theorem test_cmph :
    runs .rom4K 0x0000 [0x6E#8, 0xB4#8] (fun s => { s with hr := 0x4#4 })
      (fun t => t.hr == 0x4#4 && t.pc == 0x2#14 && !t.cf && t.zf && t.sf) = true ∧
    runs .rom4K 0x0000 [0x6E#8, 0xB4#8] (fun s => { s with hr := 0x1#4 })
      (fun t => t.hr == 0x1#4 && t.pc == 0x2#14 && !t.cf && !t.zf && t.sf) = true := by decide

/-- R221: V62 and V67 of 95_test_vectors.md. -/
theorem test_cmpia :
    runs .rom4K 0x0000 [0xB5#8] (fun s => { s with acc := 0x5#4, hr := 0x0#4 })
      (fun t => t.acc == 0x5#4 && t.hr == 0x0#4 && t.pc == 0x1#14 && t.cf && t.zf && !t.sf) = true ∧
    runs .rom4K 0x0000 [0xB5#8] (fun s => { s with acc := 0x4#4 })
      (fun t => t.acc == 0x4#4 && t.pc == 0x1#14 && t.cf && !t.zf && t.sf) = true := by decide

/-- R222: V68 and V70 of 95_test_vectors.md. -/
theorem test_cmpl :
    runs .rom4K 0x0000 [0x6E#8, 0x38#8] (fun s => { s with lr := 0x8#4 })
      (fun t => t.lr == 0x8#4 && t.pc == 0x2#14 && !t.cf && t.zf && t.sf) = true ∧
    runs .rom4K 0x0000 [0x6E#8, 0x3F#8] (fun s => { s with lr := 0x0#4, cf := true })
      (fun t => t.lr == 0x0#4 && t.pc == 0x2#14 && t.cf && !t.zf && t.sf) = true := by decide

/-- R223: V71 and V75 of 95_test_vectors.md. -/
theorem test_deca :
    runs .rom4K 0x0000 [0x5C#8] (fun s => { s with acc := 0x1#4 })
      (fun t => t.acc == 0x0#4 && t.pc == 0x1#14 && !t.cf && t.zf && t.sf) = true ∧
    runs .rom4K 0x0000 [0x5C#8] (fun s => { s with acc := 0x1#4 })
      (fun t => t.acc == 0x0#4 && t.pc == 0x1#14 && t.zf && t.sf) = true := by decide

/-- R224: V76 and V78 of 95_test_vectors.md. -/
theorem test_decl :
    runs .rom4K 0x0000 [0x7C#8] (fun s => { s with hr := 0x2#4, lr := 0x0#4 })
      (fun t => t.hr == 0x2#4 && t.lr == 0xF#4 && t.pc == 0x1#14 && !t.cf && !t.zf && !t.sf) = true ∧
    runs .rom4K 0x0000 [0x7C#8] (fun s => { s with hr := 0x7#4, lr := 0x0#4 })
      (fun t => t.hr == 0x7#4 && t.lr == 0xF#4 && t.pc == 0x1#14 && !t.zf && !t.sf) = true := by decide

/-- R225: V79 and V81 of 95_test_vectors.md. -/
theorem test_decm :
    runs .rom4K 0x0000 [0x5D#8] (fun s => { s with hr := 0x1#4, lr := 0x1#4, ram := [(0x11, 0x1#4)] })
      (fun t => t.hr == 0x1#4 && t.lr == 0x1#4 && t.pc == 0x1#14 && !t.cf && t.zf && t.sf && t.ram.read 0x11 == some 0x0#4) = true ∧
    runs .rom4K 0x0000 [0x5D#8] (fun s => { s with hr := 0x2#4, lr := 0x2#4, ram := [(0x22, 0x0#4)] })
      (fun t => t.hr == 0x2#4 && t.lr == 0x2#4 && t.pc == 0x1#14 && !t.zf && !t.sf && t.ram.read 0x22 == some 0xF#4) = true := by decide

/-- R226: V82 and V83 of 95_test_vectors.md. -/
theorem test_dicil :
    runs .rom4K 0x0000 [0x63#8, 0x3F#8] (fun s => { s with params := { s.params with intConfig := some quietSources }, il := 0x15#6, eif := true })
      (fun t => t.il == 0x15#6 && t.pc == 0x2#14 && t.sf && !t.eif) = true ∧
    runs .rom4K 0x0000 [0x63#8, 0x00#8] (fun s => { s with params := { s.params with intConfig := some quietSources }, il := 0x3F#6, eif := true })
      (fun t => t.il == 0x0#6 && t.pc == 0x2#14 && t.sf && !t.eif) = true := by decide

/-- R227: V84 and V85 of 95_test_vectors.md. -/
theorem test_eicil :
    runs .rom4K 0x0000 [0x63#8, 0xFF#8] (fun s => { s with il := 0x0#6, eif := false })
      (fun t => t.il == 0x0#6 && t.pc == 0x2#14 && t.sf && t.eif) = true ∧
    runs .rom4K 0x0000 [0x63#8, 0xFE#8] (fun s => { s with il := 0x1#6, eif := false })
      (fun t => t.il == 0x0#6 && t.pc == 0x2#14 && t.sf && t.eif) = true := by decide

/-- R228: V86 and V87 of 95_test_vectors.md. -/
theorem test_exa :
    runs .rom4K 0x0000 [0x68#8, 0x33#8] (fun s => { s with acc := 0x5#4, ram := [(0x33, 0x0#4)] })
      (fun t => t.acc == 0x0#4 && t.pc == 0x2#14 && t.zf && t.sf && t.ram.read 0x33 == some 0x5#4) = true ∧
    runs .rom4K 0x0000 [0x68#8, 0x33#8] (fun s => { s with acc := 0x0#4, ram := [(0x33, 0x9#4)] })
      (fun t => t.acc == 0x9#4 && t.pc == 0x2#14 && !t.zf && t.sf && t.ram.read 0x33 == some 0x0#4) = true := by decide

/-- R229: V88 and V90 of 95_test_vectors.md. -/
theorem test_exae :
    runs .rom4K 0x0000 [0x75#8] (fun s => { s with acc := 0xA#4, eir := 0x0#4 })
      (fun t => t.acc == 0x0#4 && t.eir == 0xA#4 && t.pc == 0x1#14 && !t.zf && t.sf) = true ∧
    runs .rom4K 0x0000 [0x75#8] (fun s => { s with acc := 0x3#4 })
      (fun t => t.eir == 0x3#4 && t.pc == 0x1#14 && t.sf) = true := by decide

/-- R230: V91 and V92 of 95_test_vectors.md. -/
theorem test_exah :
    runs .rom4K 0x0000 [0x66#8] (fun s => { s with acc := 0x3#4, hr := 0x0#4 })
      (fun t => t.acc == 0x0#4 && t.hr == 0x3#4 && t.pc == 0x1#14 && t.zf && t.sf) = true ∧
    runs .rom4K 0x0000 [0x66#8] (fun s => { s with acc := 0x0#4, hr := 0x7#4 })
      (fun t => t.acc == 0x7#4 && t.hr == 0x0#4 && t.pc == 0x1#14 && !t.zf && t.sf) = true := by decide

/-- R231: V93 and V94 of 95_test_vectors.md. -/
theorem test_exal :
    runs .rom4K 0x0000 [0x64#8] (fun s => { s with acc := 0x3#4, lr := 0xC#4 })
      (fun t => t.acc == 0xC#4 && t.lr == 0x3#4 && t.pc == 0x1#14 && !t.zf && t.sf) = true ∧
    runs .rom4K 0x0000 [0x64#8] (fun s => { s with acc := 0x3#4, lr := 0x0#4 })
      (fun t => t.acc == 0x0#4 && t.lr == 0x3#4 && t.pc == 0x1#14 && t.zf && t.sf) = true := by decide

/-- R232: V95 and V96 of 95_test_vectors.md. -/
theorem test_exam :
    runs .rom4K 0x0000 [0x58#8] (fun s => { s with acc := 0x6#4, hr := 0x4#4, lr := 0x4#4, ram := [(0x44, 0xB#4)] })
      (fun t => t.acc == 0xB#4 && t.hr == 0x4#4 && t.lr == 0x4#4 && t.pc == 0x1#14 && !t.zf && t.sf && t.ram.read 0x44 == some 0x6#4) = true ∧
    runs .rom4K 0x0000 [0x58#8] (fun s => { s with acc := 0x5#4, hr := 0x2#4, lr := 0x3#4, ram := [(0x23, 0x0#4)] })
      (fun t => t.acc == 0x0#4 && t.hr == 0x2#4 && t.lr == 0x3#4 && t.pc == 0x1#14 && t.zf && t.sf && t.ram.read 0x23 == some 0x5#4) = true := by decide

/-- R233: V97 of 95_test_vectors.md. -/
theorem test_exhl :
    runs .rom4K 0x0000 [0x4C#8, 0x20#8] (fun s => { s with hr := 0x1#4, lr := 0x2#4, ram := [(0x20, 0xA#4), (0x21, 0xB#4)] })
      (fun t => t.hr == 0xB#4 && t.lr == 0xA#4 && t.pc == 0x2#14 && t.sf && t.ram.read 0x20 == some 0x2#4 && t.ram.read 0x21 == some 0x1#4) = true := by decide

/-- R235: V100 and V102 of 95_test_vectors.md. -/
theorem test_inca :
    runs .rom4K 0x0000 [0x5E#8] (fun s => { s with acc := 0xE#4, cf := true })
      (fun t => t.acc == 0xF#4 && t.pc == 0x1#14 && t.cf && !t.zf && t.sf) = true ∧
    runs .rom4K 0x0000 [0x5E#8] (fun s => { s with acc := 0xF#4 })
      (fun t => t.acc == 0x0#4 && t.pc == 0x1#14 && t.zf && !t.sf) = true := by decide

/-- R236: V103 and V105 of 95_test_vectors.md. -/
theorem test_incl :
    runs .rom4K 0x0000 [0x7E#8] (fun s => { s with hr := 0x2#4, lr := 0xF#4 })
      (fun t => t.hr == 0x2#4 && t.lr == 0x0#4 && t.pc == 0x1#14 && !t.cf && t.zf && !t.sf) = true ∧
    runs .rom4K 0x0000 [0x7E#8] (fun s => { s with hr := 0x7#4, lr := 0xF#4 })
      (fun t => t.hr == 0x7#4 && t.lr == 0x0#4 && t.pc == 0x1#14 && t.zf && !t.sf) = true := by decide

/-- R237: V106 and V108 of 95_test_vectors.md. -/
theorem test_incm :
    runs .rom4K 0x0000 [0x5F#8] (fun s => { s with hr := 0x0#4, lr := 0x9#4, ram := [(0x9, 0xF#4)] })
      (fun t => t.hr == 0x0#4 && t.lr == 0x9#4 && t.pc == 0x1#14 && !t.cf && t.zf && !t.sf && t.ram.read 0x9 == some 0x0#4) = true ∧
    runs .rom4K 0x0000 [0x5F#8] (fun s => { s with hr := 0x2#4, lr := 0x2#4, ram := [(0x22, 0xF#4)] })
      (fun t => t.hr == 0x2#4 && t.lr == 0x2#4 && t.pc == 0x1#14 && t.zf && !t.sf && t.ram.read 0x22 == some 0x0#4) = true := by decide

/-- R239: V111 and V115 of 95_test_vectors.md. -/
theorem test_lbr :
    runs .rom4K 0x0000 [0xC2#8, 0x34#8] (fun s => { s with sf := true })
      (fun t => t.pc == 0x234#14 && t.sf) = true ∧
    runs .rom8K 0x0FFE [0xC0#8, 0x00#8] (fun s => { s with sf := true })
      (fun t => t.pc == 0x1000#14 && t.sf) = true := by decide

/-- R240: V116 and V118 of 95_test_vectors.md. -/
theorem test_lcall :
    runs .rom4K 0x0000 [0x42#8, 0x10#8] (fun s => { s with sp := 0xF#4 })
      (fun t => t.sp == 0xE#4 && t.pc == 0x210#14 && !t.sf && t.stack.read 15 == some ⟨0x2#14, none⟩) = true ∧
    runs .rom4K 0x0FF0 [0x47#8, 0xFF#8] (fun s => { s with sp := 0x0#4 })
      (fun t => t.sp == 0xF#4 && t.pc == 0x7FF#14 && t.stack.read 0 == some ⟨0xFF2#14, none⟩) = true := by decide

/-- R241: V119 and V121 of 95_test_vectors.md. -/
theorem test_lda :
    runs .rom4K 0x0000 [0x6A#8, 0x12#8] (fun s => { s with ram := [(0x12, 0x7#4)] })
      (fun t => t.acc == 0x7#4 && t.pc == 0x2#14 && !t.zf && t.sf && t.ram.read 0x12 == some 0x7#4) = true ∧
    runs .rom4K 0x0000 [0x6A#8, 0xEF#8] (fun s => { s with ram := [(0xef, 0x0#4)] })
      (fun t => t.acc == 0x0#4 && t.pc == 0x2#14 && t.zf && t.sf && t.ram.read 0xef == some 0x0#4) = true := by decide

/-- R242: V122 and V123 of 95_test_vectors.md. -/
theorem test_ldadpl :
    runs .rom4K 0x0000 [0x6A#8, 0xFC#8] (fun s => { s with dp := 0x2A7#12 })
      (fun t => t.acc == 0x7#4 && t.dp == 0x2A7#12 && t.pc == 0x2#14 && !t.zf && t.sf) = true ∧
    runs .rom4K 0x0000 [0x6A#8, 0xFC#8] (fun s => { s with dp := 0x120#12 })
      (fun t => t.acc == 0x0#4 && t.dp == 0x120#12 && t.pc == 0x2#14 && t.zf && t.sf) = true := by decide

/-- R243: V124 of 95_test_vectors.md. -/
theorem test_ldadpm :
    runs .rom4K 0x0000 [0x6A#8, 0xFD#8] (fun s => { s with dp := 0x207#12 })
      (fun t => t.acc == 0x0#4 && t.dp == 0x207#12 && t.pc == 0x2#14 && t.zf && t.sf) = true := by decide

/-- R244: V125 of 95_test_vectors.md. -/
theorem test_ldadph :
    runs .rom4K 0x0000 [0x6A#8, 0xFE#8] (fun s => { s with dp := 0x2A7#12 })
      (fun t => t.acc == 0x2#4 && t.dp == 0x2A7#12 && t.pc == 0x2#14 && !t.zf && t.sf) = true := by decide

/-- R245: V126 and V127 of 95_test_vectors.md. -/
theorem test_ldam :
    runs .rom4K 0x0000 [0x5A#8] (fun s => { s with hr := 0x6#4, lr := 0x2#4, ram := [(0x62, 0xC#4)] })
      (fun t => t.acc == 0xC#4 && t.hr == 0x6#4 && t.lr == 0x2#4 && t.pc == 0x1#14 && !t.zf && t.sf && t.ram.read 0x62 == some 0xC#4) = true ∧
    runs .rom4K 0x0000 [0x5A#8] (fun s => { s with hr := 0x6#4, lr := 0x2#4, ram := [(0x62, 0x0#4)] })
      (fun t => t.acc == 0x0#4 && t.hr == 0x6#4 && t.lr == 0x2#4 && t.pc == 0x1#14 && t.zf && t.sf && t.ram.read 0x62 == some 0x0#4) = true := by decide

/-- R246: V128 and V129 of 95_test_vectors.md. -/
theorem test_ldasp :
    runs .rom4K 0x0000 [0x6A#8, 0xFF#8] (fun s => { s with sp := 0xD#4 })
      (fun t => t.acc == 0xD#4 && t.sp == 0xD#4 && t.pc == 0x2#14 && !t.zf && t.sf) = true ∧
    runs .rom4K 0x0000 [0x6A#8, 0xFF#8] (fun s => { s with sp := 0x0#4 })
      (fun t => t.acc == 0x0#4 && t.sp == 0x0#4 && t.pc == 0x2#14 && t.zf && t.sf) = true := by decide

/-- R247: V130 of 95_test_vectors.md. -/
theorem test_ldatal :
    runs .rom4K 0x0000 [0x6A#8, 0xF4#8] (fun s => { s with ta := 0x2A7#12 })
      (fun t => t.acc == 0x7#4 && t.ta == 0x2A7#12 && t.pc == 0x2#14 && !t.zf && t.sf) = true := by decide

/-- R248: V131 and V132 of 95_test_vectors.md. -/
theorem test_ldatam :
    runs .rom4K 0x0000 [0x6A#8, 0xF5#8] (fun s => { s with ta := 0x207#12 })
      (fun t => t.acc == 0x0#4 && t.ta == 0x207#12 && t.pc == 0x2#14 && t.zf && t.sf) = true ∧
    runs .rom4K 0x0000 [0x6A#8, 0xF5#8] (fun s => { s with ta := 0xF0F#12 })
      (fun t => t.acc == 0x0#4 && t.ta == 0xF0F#12 && t.pc == 0x2#14 && t.zf && t.sf) = true := by decide

/-- R249: V133 of 95_test_vectors.md. -/
theorem test_ldatah :
    runs .rom4K 0x0000 [0x6A#8, 0xF6#8] (fun s => { s with ta := 0x2A7#12 })
      (fun t => t.acc == 0x2#4 && t.ta == 0x2A7#12 && t.pc == 0x2#14 && !t.zf && t.sf) = true := by decide

/-- R250: V134 of 95_test_vectors.md. -/
theorem test_ldatbl :
    runs .rom4K 0x0000 [0x6A#8, 0xF8#8] (fun s => { s with tb := 0x2A7#12 })
      (fun t => t.acc == 0x7#4 && t.tb == 0x2A7#12 && t.pc == 0x2#14 && !t.zf && t.sf) = true := by decide

/-- R251: V135 of 95_test_vectors.md. -/
theorem test_ldatbm :
    runs .rom4K 0x0000 [0x6A#8, 0xF9#8] (fun s => { s with tb := 0x207#12 })
      (fun t => t.acc == 0x0#4 && t.tb == 0x207#12 && t.pc == 0x2#14 && t.zf && t.sf) = true := by decide

/-- R252: V136 and V137 of 95_test_vectors.md. -/
theorem test_ldatbh :
    runs .rom4K 0x0000 [0x6A#8, 0xFA#8] (fun s => { s with tb := 0x2A7#12 })
      (fun t => t.acc == 0x2#4 && t.tb == 0x2A7#12 && t.pc == 0x2#14 && !t.zf && t.sf) = true ∧
    runs .rom4K 0x0000 [0x6A#8, 0xFA#8] (fun s => { s with tb := 0xFF#12 })
      (fun t => t.acc == 0x0#4 && t.tb == 0xFF#12 && t.pc == 0x2#14 && t.zf && t.sf) = true := by decide

/-- R253: V138 and V140 of 95_test_vectors.md. -/
theorem test_ldax :
    runs .rom4K 0x0000 [0x65#8] (fun s => { s with dp := 0x300#12, rom := placeBytes (placeBytes [] 0x0000 [0x65#8]) 0x300 [0xA5#8] })
      (fun t => t.acc == 0x5#4 && t.dp == 0x300#12 && t.pc == 0x1#14 && !t.zf && t.sf) = true ∧
    runs .rom2K 0x0000 [0x65#8] (fun s => { s with dp := 0x7FF#12, rom := placeBytes (placeBytes [] 0x0000 [0x65#8]) 0x7FF [0x21#8] })
      (fun t => t.acc == 0x1#4 && t.dp == 0x7FF#12 && t.pc == 0x1#14 && !t.zf && t.sf) = true := by decide

/-- R254: V141 and V144 of 95_test_vectors.md. -/
theorem test_ldaxi :
    runs .rom4K 0x0000 [0x67#8] (fun s => { s with dp := 0x300#12, rom := placeBytes (placeBytes [] 0x0000 [0x67#8]) 0x300 [0xA5#8] })
      (fun t => t.acc == 0xA#4 && t.dp == 0x301#12 && t.pc == 0x1#14 && !t.zf && t.sf) = true ∧
    runs .rom8K 0x0000 [0x67#8] (fun s => { s with dp := 0xFFF#12, rom := placeBytes (placeBytes [] 0x0000 [0x67#8]) 0x1FFF [0x5A#8] })
      (fun t => t.acc == 0x5#4 && t.dp == 0x0#12 && t.pc == 0x1#14 && !t.zf && t.sf) = true := by decide

/-- R255: V145 and V146 of 95_test_vectors.md. -/
theorem test_ldh :
    runs .rom4K 0x0000 [0x93#8] (fun s => { s with hr := 0x9#4, lr := 0x1#4 })
      (fun t => t.hr == 0x3#4 && t.lr == 0x1#4 && t.pc == 0x1#14 && !t.zf && t.sf) = true ∧
    runs .rom4K 0x0000 [0x90#8] (fun s => s)
      (fun t => t.hr == 0x0#4 && t.pc == 0x1#14 && t.sf) = true := by decide

/-- R256: V147 and V148 of 95_test_vectors.md. -/
theorem test_ldhl :
    runs .rom4K 0x0000 [0x4E#8, 0x1C#8] (fun s => { s with ram := [(0x1c, 0x4#4), (0x1d, 0x2#4)] })
      (fun t => t.hr == 0x2#4 && t.lr == 0x4#4 && t.pc == 0x2#14 && t.sf && t.ram.read 0x1c == some 0x4#4 && t.ram.read 0x1d == some 0x2#4) = true ∧
    runs .rom4K 0x0000 [0x4E#8, 0xEC#8] (fun s => { s with ram := [(0xec, 0x1#4), (0xed, 0x2#4)] })
      (fun t => t.hr == 0x2#4 && t.lr == 0x1#4 && t.pc == 0x2#14 && t.sf && t.ram.read 0xec == some 0x1#4 && t.ram.read 0xed == some 0x2#4) = true := by decide

/-- R257: V149 and V151 of 95_test_vectors.md. -/
theorem test_ldia :
    runs .rom4K 0x0000 [0xD0#8] (fun s => { s with acc := 0x5#4 })
      (fun t => t.acc == 0x0#4 && t.pc == 0x1#14 && t.zf && t.sf) = true ∧
    runs .rom4K 0x0000 [0xD0#8] (fun s => s)
      (fun t => t.acc == 0x0#4 && t.pc == 0x1#14 && t.zf && t.sf) = true := by decide

/-- R258: V152 and V153 of 95_test_vectors.md. -/
theorem test_ldl :
    runs .rom4K 0x0000 [0x8F#8] (fun s => { s with hr := 0x9#4, lr := 0x1#4 })
      (fun t => t.hr == 0x9#4 && t.lr == 0xF#4 && t.pc == 0x1#14 && t.sf) = true ∧
    runs .rom4K 0x0000 [0x8F#8] (fun s => s)
      (fun t => t.lr == 0xF#4 && t.pc == 0x1#14 && t.sf) = true := by decide

/-- R259: V154 and V155 of 95_test_vectors.md. -/
theorem test_nop :
    runs .rom4K 0x0000 [0x56#8] (fun s => { s with cf := true })
      (fun t => t.pc == 0x1#14 && t.cf && !t.zf && !t.sf) = true ∧
    runs .rom4K 0x0000 [0x56#8] (fun s => { s with acc := 0x3#4, cf := true, zf := true })
      (fun t => t.acc == 0x3#4 && t.pc == 0x1#14 && t.cf && t.zf && !t.sf) = true := by decide

/-- R260: V156 and V157 of 95_test_vectors.md. -/
theorem test_ora :
    runs .rom4K 0x0000 [0x6E#8, 0x41#8] (fun s => { s with acc := 0x8#4 })
      (fun t => t.acc == 0x9#4 && t.pc == 0x2#14 && !t.zf && t.sf) = true ∧
    runs .rom4K 0x0000 [0x6E#8, 0x40#8] (fun s => { s with acc := 0x0#4 })
      (fun t => t.acc == 0x0#4 && t.pc == 0x2#14 && t.zf && !t.sf) = true := by decide

/-- R261: V158 and V159 of 95_test_vectors.md. -/
theorem test_oram :
    runs .rom4K 0x0000 [0x78#8] (fun s => { s with acc := 0x1#4, hr := 0x0#4, lr := 0x0#4, ram := [(0x0, 0x6#4)] })
      (fun t => t.acc == 0x7#4 && t.hr == 0x0#4 && t.lr == 0x0#4 && t.pc == 0x1#14 && !t.zf && t.sf && t.ram.read 0x0 == some 0x6#4) = true ∧
    runs .rom4K 0x0000 [0x78#8] (fun s => { s with acc := 0x0#4, hr := 0x0#4, lr := 0x0#4, ram := [(0x0, 0x0#4)] })
      (fun t => t.acc == 0x0#4 && t.hr == 0x0#4 && t.lr == 0x0#4 && t.pc == 0x1#14 && t.zf && !t.sf && t.ram.read 0x0 == some 0x0#4) = true := by decide

/-- R262: V160 and V161 of 95_test_vectors.md. -/
theorem test_orm :
    runs .rom4K 0x0000 [0x6E#8, 0xC8#8] (fun s => { s with hr := 0x2#4, lr := 0x2#4, ram := [(0x22, 0x1#4)] })
      (fun t => t.hr == 0x2#4 && t.lr == 0x2#4 && t.pc == 0x2#14 && !t.zf && t.sf && t.ram.read 0x22 == some 0x9#4) = true ∧
    runs .rom4K 0x0000 [0x6E#8, 0xC0#8] (fun s => { s with hr := 0x2#4, lr := 0x2#4, ram := [(0x22, 0x0#4)] })
      (fun t => t.hr == 0x2#4 && t.lr == 0x2#4 && t.pc == 0x2#14 && t.zf && !t.sf && t.ram.read 0x22 == some 0x0#4) = true := by decide

/-- R263: V162 and V163 of 95_test_vectors.md. -/
theorem test_out :
    runs .rom4K 0x0000 [0x4A#8, 0xA4#8] (fun s => s)
      (fun t => t.pc == 0x2#14 && t.sf && t.portOut[4] == 0xA#4 && t.events == [.write 4#5 0xA#4]) = true ∧
    runs .rom4K 0x0000 [0x4A#8, 0xAF#8] (fun s => s)
      (fun t => t.pc == 0x2#14 && t.sf && t.portOut[15] == 0xA#4 && t.events == [.write 15#5 0xA#4]) = true := by decide

/-- R264: V164 and V166 of 95_test_vectors.md. -/
theorem test_outa :
    runs .rom4K 0x0000 [0x6F#8, 0x07#8] (fun s => { s with acc := 0xC#4 })
      (fun t => t.acc == 0xC#4 && t.pc == 0x2#14 && t.sf && t.portOut[7] == 0xC#4 && t.events == [.write 7#5 0xC#4]) = true ∧
    runs .rom4K 0x0000 [0x6F#8, 0x1F#8] (fun s => { s with acc := 0x6#4 })
      (fun t => t.acc == 0x6#4 && t.pc == 0x2#14 && t.sf && t.portOut[31] == 0x6#4 && t.events == [.write 31#5 0x6#4]) = true := by decide

/-- R265: V167 and V170 of 95_test_vectors.md. -/
theorem test_out12 :
    runs .rom4K 0x0000 [0x77#8] (fun s => { s with hr := 0x1#4, lr := 0x0#4, ram := [(0x10, 0x3#4)], rom := placeBytes (placeBytes [] 0x0000 [0x77#8]) 0xFE3 [0x5B#8] })
      (fun t => t.hr == 0x1#4 && t.lr == 0x0#4 && t.pc == 0x1#14 && !t.cf && t.sf && t.ram.read 0x10 == some 0x3#4 && t.portOut[1] == 0xB#4 && t.portOut[2] == 0x5#4 && t.events == [.write2 1#5 0xB#4 2#5 0x5#4]) = true ∧
    runs .rom8K 0x0000 [0x77#8] (fun s => { s with hr := 0x0#4, lr := 0x0#4, ram := [(0x0, 0x0#4)], rom := placeBytes (placeBytes [] 0x0000 [0x77#8]) 0x1FE0 [0x18#8] })
      (fun t => t.hr == 0x0#4 && t.lr == 0x0#4 && t.pc == 0x1#14 && !t.cf && t.sf && t.ram.read 0x0 == some 0x0#4 && t.portOut[1] == 0x8#4 && t.portOut[2] == 0x1#4 && t.events == [.write2 1#5 0x8#4 2#5 0x1#4]) = true := by decide

/-- R266: V171 and V172 of 95_test_vectors.md. -/
theorem test_ret :
    runs .rom4K 0x0000 [0x4F#8] (fun s => { s with sp := 0xE#4, stack := [(15, ⟨0x234#14, none⟩)] })
      (fun t => t.sp == 0xF#4 && t.pc == 0x234#14 && !t.sf && t.stack.read 15 == some ⟨0x234#14, none⟩) = true ∧
    runs .rom4K 0x0000 [0x4F#8] (fun s => { s with sp := 0xF#4, stack := [(0, ⟨0x6#14, none⟩)] })
      (fun t => t.sp == 0x0#4 && t.pc == 0x6#14 && t.stack.read 0 == some ⟨0x6#14, none⟩) = true := by decide

/-- R267: V173 and V176 of 95_test_vectors.md. -/
theorem test_rlca :
    runs .rom4K 0x0000 [0x50#8] (fun s => { s with acc := 0x9#4 })
      (fun t => t.acc == 0x2#4 && t.pc == 0x1#14 && t.cf && !t.zf && !t.sf) = true ∧
    runs .rom4K 0x0000 [0x50#8] (fun s => { s with acc := 0x0#4, cf := true })
      (fun t => t.acc == 0x1#4 && t.pc == 0x1#14 && !t.cf && !t.zf && t.sf) = true := by decide

/-- R268: V177 and V180 of 95_test_vectors.md. -/
theorem test_rrca :
    runs .rom4K 0x0000 [0x51#8] (fun s => { s with acc := 0x9#4 })
      (fun t => t.acc == 0x4#4 && t.pc == 0x1#14 && t.cf && !t.zf && !t.sf) = true ∧
    runs .rom4K 0x0000 [0x51#8] (fun s => { s with acc := 0x0#4, cf := true })
      (fun t => t.acc == 0x8#4 && t.pc == 0x1#14 && !t.cf && !t.zf && t.sf) = true := by decide

/-- R269: V181 and V182 of 95_test_vectors.md. -/
theorem test_rti :
    runs .rom4K 0x0000 [0x4D#8] (fun s => { s with sp := 0xC#4, sf := true, eif := false, stack := [(13, ⟨0x1A2#14, some ⟨true, true, false⟩⟩)] })
      (fun t => t.sp == 0xD#4 && t.pc == 0x1A2#14 && t.cf && t.zf && !t.sf && t.eif && t.stack.read 13 == some ⟨0x1A2#14, some ⟨true, true, false⟩⟩) = true ∧
    runs .rom4K 0x0000 [0x4D#8] (fun s => { s with sp := 0xF#4, eif := false, stack := [(0, ⟨0x10#14, some ⟨false, false, true⟩⟩)] })
      (fun t => t.sp == 0x0#4 && t.pc == 0x10#14 && !t.cf && !t.zf && t.sf && t.eif && t.stack.read 0 == some ⟨0x10#14, some ⟨false, false, true⟩⟩) = true := by decide

/-- R270: V183 and V188 of 95_test_vectors.md. -/
theorem test_sbcam :
    runs .rom4K 0x0000 [0x72#8] (fun s => { s with acc := 0x3#4, hr := 0x0#4, lr := 0x4#4, cf := true, ram := [(0x4, 0x9#4)] })
      (fun t => t.acc == 0x6#4 && t.hr == 0x0#4 && t.lr == 0x4#4 && t.pc == 0x1#14 && t.cf && !t.zf && t.sf && t.ram.read 0x4 == some 0x9#4) = true ∧
    runs .rom4K 0x0000 [0x72#8] (fun s => { s with acc := 0x5#4, hr := 0x0#4, lr := 0x0#4, cf := true, ram := [(0x0, 0x5#4)] })
      (fun t => t.acc == 0x0#4 && t.hr == 0x0#4 && t.lr == 0x0#4 && t.pc == 0x1#14 && t.cf && t.zf && t.sf && t.ram.read 0x0 == some 0x5#4) = true := by decide

/-- R271: V189 and V194 of 95_test_vectors.md. -/
theorem test_sbr :
    runs .rom4K 0x0000 [0x05#8] (fun s => { s with sf := true })
      (fun t => t.pc == 0x5#14 && t.sf) = true ∧
    runs .rom4K 0x013F [0x05#8] (fun s => s)
      (fun t => t.pc == 0x140#14 && t.sf) = true := by decide

/-- R272: V195 and V199 of 95_test_vectors.md. -/
theorem test_scall :
    runs .rom4K 0x0000 [0xE1#8] (fun s => { s with sp := 0xF#4 })
      (fun t => t.sp == 0xE#4 && t.pc == 0xE#14 && t.stack.read 15 == some ⟨0x1#14, none⟩) = true ∧
    runs .rom4K 0x0200 [0xEF#8] (fun s => { s with sp := 0x0#4 })
      (fun t => t.sp == 0xF#4 && t.pc == 0x7E#14 && t.stack.read 0 == some ⟨0x201#14, none⟩) = true := by decide

/-- R273: V200 and V201 of 95_test_vectors.md. -/
theorem test_sem :
    runs .rom4K 0x0000 [0xF7#8] (fun s => { s with hr := 0x3#4, lr := 0x1#4, ram := [(0x31, 0x0#4)] })
      (fun t => t.hr == 0x3#4 && t.lr == 0x1#4 && t.pc == 0x1#14 && t.sf && t.ram.read 0x31 == some 0x8#4) = true ∧
    runs .rom4K 0x0000 [0xF7#8] (fun s => { s with hr := 0x0#4, lr := 0x0#4, ram := [(0x0, 0x0#4)] })
      (fun t => t.hr == 0x0#4 && t.lr == 0x0#4 && t.pc == 0x1#14 && t.sf && t.ram.read 0x0 == some 0x8#4) = true := by decide

/-- R274: V202 and V203 of 95_test_vectors.md. -/
theorem test_sep :
    runs .rom4K 0x0000 [0x6D#8, 0x76#8] (fun s => { s with portOut := s.portOut.set 6 0x1#4 })
      (fun t => t.pc == 0x2#14 && t.sf && t.portOut[6] == 0x9#4 && t.events == [.write 6#5 0x9#4]) = true ∧
    runs .rom4K 0x0000 [0x6D#8, 0x7F#8] (fun s => { s with portOut := s.portOut.set 15 0x0#4 })
      (fun t => t.pc == 0x2#14 && t.sf && t.portOut[15] == 0x8#4 && t.events == [.write 15#5 0x8#4]) = true := by decide

/-- R275: V204 and V205 of 95_test_vectors.md. -/
theorem test_sepl :
    runs .rom4K 0x0000 [0x62#8] (fun s => { s with lr := 0x9#4, portOut := s.portOut.set 6 0x0#4 })
      (fun t => t.lr == 0x9#4 && t.pc == 0x1#14 && t.sf && t.portOut[6] == 0x2#4 && t.events == [.write 6#5 0x2#4]) = true ∧
    runs .rom4K 0x0000 [0x62#8] (fun s => { s with lr := 0x6#4, portOut := s.portOut.set 5 0x0#4 })
      (fun t => t.lr == 0x6#4 && t.pc == 0x1#14 && t.sf && t.portOut[5] == 0x4#4 && t.events == [.write 5#5 0x4#4]) = true := by decide

/-- R276: V206 and V207 of 95_test_vectors.md. -/
theorem test_set :
    runs .rom4K 0x0000 [0x6C#8, 0x5E#8] (fun s => { s with ram := [(0xe, 0x4#4)] })
      (fun t => t.pc == 0x2#14 && t.sf && t.ram.read 0xe == some 0x6#4) = true ∧
    runs .rom4K 0x0000 [0x6C#8, 0x70#8] (fun s => { s with ram := [(0x0, 0x7#4)] })
      (fun t => t.pc == 0x2#14 && t.sf && t.ram.read 0x0 == some 0xF#4) = true := by decide

/-- R277: V208 and V209 of 95_test_vectors.md. -/
theorem test_sgf :
    runs .rom4K 0x0000 [0x55#8] (fun s => s)
      (fun t => t.pc == 0x1#14 && t.sf && t.gf) = true ∧
    runs .rom4K 0x0000 [0x55#8] (fun s => { s with gf := true })
      (fun t => t.pc == 0x1#14 && t.sf && t.gf) = true := by decide

/-- R278: V210 and V212 of 95_test_vectors.md. -/
theorem test_slbr :
    runs .rom8K 0x0000 [0x55#8, 0xC2#8, 0x34#8] (fun s => { s with sf := true })
      (fun t => t.pc == 0x1234#14 && t.sf) = true ∧
    runs .rom8K 0x0000 [0x55#8, 0xC2#8, 0x34#8] (fun s => s)
      (fun t => t.pc == 0x3#14 && t.sf) = true := by decide

/-- R279: V213 and V214 of 95_test_vectors.md. -/
theorem test_sta :
    runs .rom4K 0x0000 [0x69#8, 0x2A#8] (fun s => { s with acc := 0xB#4 })
      (fun t => t.acc == 0xB#4 && t.pc == 0x2#14 && !t.zf && t.sf && t.ram.read 0x2a == some 0xB#4) = true ∧
    runs .rom4K 0x0000 [0x69#8, 0xEF#8] (fun s => { s with acc := 0x9#4 })
      (fun t => t.acc == 0x9#4 && t.pc == 0x2#14 && t.sf && t.ram.read 0xef == some 0x9#4) = true := by decide

/-- R280: V215 of 95_test_vectors.md. -/
theorem test_stadpl :
    runs .rom4K 0x0000 [0x69#8, 0xFC#8] (fun s => { s with acc := 0x5#4, dp := 0x0#12 })
      (fun t => t.acc == 0x5#4 && t.dp == 0x5#12 && t.pc == 0x2#14 && t.sf) = true := by decide

/-- R281: V216 and V217 of 95_test_vectors.md. -/
theorem test_stadpm :
    runs .rom4K 0x0000 [0x69#8, 0xFD#8] (fun s => { s with acc := 0x5#4, dp := 0x0#12 })
      (fun t => t.acc == 0x5#4 && t.dp == 0x50#12 && t.pc == 0x2#14 && t.sf) = true ∧
    runs .rom4K 0x0000 [0x69#8, 0xFD#8] (fun s => { s with acc := 0x0#4, dp := 0xFFF#12 })
      (fun t => t.acc == 0x0#4 && t.dp == 0xF0F#12 && t.pc == 0x2#14 && t.sf) = true := by decide

/-- R282: V218 of 95_test_vectors.md. -/
theorem test_stadph :
    runs .rom4K 0x0000 [0x69#8, 0xFE#8] (fun s => { s with acc := 0x5#4, dp := 0x0#12 })
      (fun t => t.acc == 0x5#4 && t.dp == 0x500#12 && t.pc == 0x2#14 && t.sf) = true := by decide

/-- R283: V219 and V220 of 95_test_vectors.md. -/
theorem test_stam :
    runs .rom4K 0x0000 [0x59#8] (fun s => { s with acc := 0x7#4, hr := 0x2#4, lr := 0x3#4 })
      (fun t => t.acc == 0x7#4 && t.hr == 0x2#4 && t.lr == 0x3#4 && t.pc == 0x1#14 && t.sf && t.ram.read 0x23 == some 0x7#4) = true ∧
    runs .rom4K 0x0000 [0x59#8] (fun s => { s with acc := 0x0#4, hr := 0xE#4, lr := 0xF#4 })
      (fun t => t.acc == 0x0#4 && t.hr == 0xE#4 && t.lr == 0xF#4 && t.pc == 0x1#14 && !t.zf && t.sf && t.ram.read 0xef == some 0x0#4) = true := by decide

/-- R284: V221 and V223 of 95_test_vectors.md. -/
theorem test_stamd :
    runs .rom4K 0x0000 [0x7D#8] (fun s => { s with acc := 0x0#4, hr := 0x2#4, lr := 0x3#4 })
      (fun t => t.acc == 0x0#4 && t.hr == 0x2#4 && t.lr == 0x2#4 && t.pc == 0x1#14 && !t.cf && t.zf && t.sf && t.ram.read 0x23 == some 0x0#4) = true ∧
    runs .rom4K 0x0000 [0x7D#8] (fun s => { s with acc := 0x1#4, hr := 0x1#4, lr := 0x0#4 })
      (fun t => t.acc == 0x1#4 && t.hr == 0x1#4 && t.lr == 0xF#4 && t.pc == 0x1#14 && !t.zf && !t.sf && t.ram.read 0x10 == some 0x1#4) = true := by decide

/-- R285: V224 and V226 of 95_test_vectors.md. -/
theorem test_stami :
    runs .rom4K 0x0000 [0x7F#8] (fun s => { s with acc := 0x9#4, hr := 0x2#4, lr := 0x3#4 })
      (fun t => t.acc == 0x9#4 && t.hr == 0x2#4 && t.lr == 0x4#4 && t.pc == 0x1#14 && !t.cf && !t.zf && t.sf && t.ram.read 0x23 == some 0x9#4) = true ∧
    runs .rom4K 0x0000 [0x7F#8] (fun s => { s with acc := 0x1#4, hr := 0x1#4, lr := 0xF#4 })
      (fun t => t.acc == 0x1#4 && t.hr == 0x1#4 && t.lr == 0x0#4 && t.pc == 0x1#14 && !t.zf && !t.sf && t.ram.read 0x1f == some 0x1#4) = true := by decide

/-- R286: V227 and V228 of 95_test_vectors.md. -/
theorem test_stasp :
    runs .rom4K 0x0000 [0x69#8, 0xFF#8] (fun s => { s with acc := 0xF#4 })
      (fun t => t.acc == 0xF#4 && t.sp == 0xF#4 && t.pc == 0x2#14 && t.sf) = true ∧
    runs .rom4K 0x0000 [0x69#8, 0xFF#8] (fun s => { s with acc := 0x0#4 })
      (fun t => t.acc == 0x0#4 && t.sp == 0x0#4 && t.pc == 0x2#14 && t.sf) = true := by decide

/-- R287: V229 of 95_test_vectors.md. -/
theorem test_statal :
    runs .rom4K 0x0000 [0x69#8, 0xF4#8] (fun s => { s with acc := 0x5#4, ta := 0x0#12 })
      (fun t => t.acc == 0x5#4 && t.ta == 0x5#12 && t.pc == 0x2#14 && t.sf) = true := by decide

/-- R288: V230 of 95_test_vectors.md. -/
theorem test_statam :
    runs .rom4K 0x0000 [0x69#8, 0xF5#8] (fun s => { s with acc := 0x5#4, ta := 0x0#12 })
      (fun t => t.acc == 0x5#4 && t.ta == 0x50#12 && t.pc == 0x2#14 && t.sf) = true := by decide

/-- R289: V231 and V232 of 95_test_vectors.md. -/
theorem test_statah :
    runs .rom4K 0x0000 [0x69#8, 0xF6#8] (fun s => { s with acc := 0x5#4, ta := 0x0#12 })
      (fun t => t.acc == 0x5#4 && t.ta == 0x500#12 && t.pc == 0x2#14 && t.sf) = true ∧
    runs .rom4K 0x0000 [0x69#8, 0xF6#8] (fun s => { s with acc := 0x3#4, ta := 0x0#12 })
      (fun t => t.acc == 0x3#4 && t.ta == 0x300#12 && t.pc == 0x2#14 && t.sf) = true := by decide

/-- R290: V233 of 95_test_vectors.md. -/
theorem test_statbl :
    runs .rom4K 0x0000 [0x69#8, 0xF8#8] (fun s => { s with acc := 0x5#4, tb := 0x0#12 })
      (fun t => t.acc == 0x5#4 && t.tb == 0x5#12 && t.pc == 0x2#14 && t.sf) = true := by decide

/-- R291: V234 of 95_test_vectors.md. -/
theorem test_statbm :
    runs .rom4K 0x0000 [0x69#8, 0xF9#8] (fun s => { s with acc := 0x5#4, tb := 0x0#12 })
      (fun t => t.acc == 0x5#4 && t.tb == 0x50#12 && t.pc == 0x2#14 && t.sf) = true := by decide

/-- R292: V235 of 95_test_vectors.md. -/
theorem test_statbh :
    runs .rom4K 0x0000 [0x69#8, 0xFA#8] (fun s => { s with acc := 0x5#4, tb := 0x0#12 })
      (fun t => t.acc == 0x5#4 && t.tb == 0x500#12 && t.pc == 0x2#14 && t.sf) = true := by decide

/-- R293: V236 and V237 of 95_test_vectors.md. -/
theorem test_std :
    runs .rom4K 0x0000 [0x48#8, 0x9A#8] (fun s => s)
      (fun t => t.pc == 0x2#14 && !t.zf && t.sf && t.ram.read 0xa == some 0x9#4) = true ∧
    runs .rom4K 0x0000 [0x48#8, 0x0F#8] (fun s => s)
      (fun t => t.pc == 0x2#14 && t.sf && t.ram.read 0xf == some 0x0#4) = true := by decide

/-- R294: V238 and V240 of 95_test_vectors.md. -/
theorem test_stdmi :
    runs .rom4K 0x0000 [0xA0#8] (fun s => { s with hr := 0x1#4, lr := 0xE#4 })
      (fun t => t.hr == 0x1#4 && t.lr == 0xF#4 && t.pc == 0x1#14 && !t.cf && t.zf && t.sf && t.ram.read 0x1e == some 0x0#4) = true ∧
    runs .rom4K 0x0000 [0xAF#8] (fun s => { s with hr := 0x3#4, lr := 0xF#4 })
      (fun t => t.hr == 0x3#4 && t.lr == 0x0#4 && t.pc == 0x1#14 && !t.zf && !t.sf && t.ram.read 0x3f == some 0xF#4) = true := by decide

/-- R295: V241 and V245 of 95_test_vectors.md. -/
theorem test_suba :
    runs .rom4K 0x0000 [0x6E#8, 0x79#8] (fun s => { s with acc := 0x3#4 })
      (fun t => t.acc == 0x6#4 && t.pc == 0x2#14 && !t.cf && !t.zf && t.sf) = true ∧
    runs .rom4K 0x0000 [0x6E#8, 0x70#8] (fun s => { s with acc := 0x1#4 })
      (fun t => t.acc == 0xF#4 && t.pc == 0x2#14 && !t.zf && !t.sf) = true := by decide

/-- R296: V246 and V248 of 95_test_vectors.md. -/
theorem test_subm :
    runs .rom4K 0x0000 [0x6E#8, 0xF9#8] (fun s => { s with hr := 0x0#4, lr := 0x5#4, ram := [(0x5, 0x2#4)] })
      (fun t => t.hr == 0x0#4 && t.lr == 0x5#4 && t.pc == 0x2#14 && !t.cf && !t.zf && t.sf && t.ram.read 0x5 == some 0x7#4) = true ∧
    runs .rom4K 0x0000 [0x6E#8, 0xF0#8] (fun s => { s with hr := 0x0#4, lr := 0x0#4, ram := [(0x0, 0x1#4)] })
      (fun t => t.hr == 0x0#4 && t.lr == 0x0#4 && t.pc == 0x2#14 && !t.zf && !t.sf && t.ram.read 0x0 == some 0xF#4) = true := by decide

/-- R297: V249 and V250 of 95_test_vectors.md. -/
theorem test_tfa :
    runs .rom4K 0x0000 [0xFB#8] (fun s => { s with acc := 0x7#4 })
      (fun t => t.acc == 0x7#4 && t.pc == 0x1#14 && t.sf) = true ∧
    runs .rom4K 0x0000 [0xF8#8] (fun s => { s with acc := 0x7#4 })
      (fun t => t.acc == 0x7#4 && t.pc == 0x1#14 && !t.sf) = true := by decide

/-- R298: V251 and V252 of 95_test_vectors.md. -/
theorem test_tfcfc :
    runs .rom4K 0x0000 [0x53#8] (fun s => { s with cf := true })
      (fun t => t.pc == 0x1#14 && !t.cf && !t.sf) = true ∧
    runs .rom4K 0x0000 [0x53#8] (fun s => s)
      (fun t => t.pc == 0x1#14 && !t.cf && t.sf) = true := by decide

/-- R299: V253 and V254 of 95_test_vectors.md. -/
theorem test_tfm :
    runs .rom4K 0x0000 [0xFE#8] (fun s => { s with hr := 0x0#4, lr := 0x1#4, ram := [(0x1, 0x4#4)] })
      (fun t => t.hr == 0x0#4 && t.lr == 0x1#4 && t.pc == 0x1#14 && !t.sf && t.ram.read 0x1 == some 0x4#4) = true ∧
    runs .rom4K 0x0000 [0xFC#8] (fun s => { s with hr := 0x0#4, lr := 0x1#4, ram := [(0x1, 0x4#4)] })
      (fun t => t.hr == 0x0#4 && t.lr == 0x1#4 && t.pc == 0x1#14 && t.sf && t.ram.read 0x1 == some 0x4#4) = true := by decide

/-- R302: V259 and V261 of 95_test_vectors.md. -/
theorem test_tgs :
    runs .rom4K 0x0000 [0x54#8] (fun s => { s with gf := true })
      (fun t => t.pc == 0x1#14 && t.sf && t.gf) = true ∧
    runs .rom4K 0x0000 [0x54#8] (fun s => s)
      (fun t => t.pc == 0x1#14 && !t.sf && !t.gf) = true := by decide

/-- R303: V262 and V264 of 95_test_vectors.md. -/
theorem test_tha :
    runs .rom4K 0x0000 [0x76#8] (fun s => { s with acc := 0x1#4, hr := 0x0#4 })
      (fun t => t.acc == 0x0#4 && t.hr == 0x0#4 && t.pc == 0x1#14 && t.zf && t.sf) = true ∧
    runs .rom4K 0x0000 [0x76#8] (fun s => { s with hr := 0x0#4 })
      (fun t => t.acc == 0x0#4 && t.hr == 0x0#4 && t.pc == 0x1#14 && t.zf && t.sf) = true := by decide

/-- R304: V265 and V266 of 95_test_vectors.md. -/
theorem test_tla :
    runs .rom4K 0x0000 [0x74#8] (fun s => { s with acc := 0x1#4, lr := 0x6#4 })
      (fun t => t.acc == 0x6#4 && t.lr == 0x6#4 && t.pc == 0x1#14 && !t.zf && t.sf) = true ∧
    runs .rom4K 0x0000 [0x74#8] (fun s => { s with lr := 0x0#4 })
      (fun t => t.acc == 0x0#4 && t.lr == 0x0#4 && t.pc == 0x1#14 && t.zf && t.sf) = true := by decide

/-- R305: V267 and V268 of 95_test_vectors.md. -/
theorem test_tt :
    runs .rom4K 0x0000 [0x6C#8, 0xA4#8] (fun s => { s with ram := [(0x4, 0x4#4)] })
      (fun t => t.pc == 0x2#14 && t.sf && t.ram.read 0x4 == some 0x4#4) = true ∧
    runs .rom4K 0x0000 [0x6C#8, 0x94#8] (fun s => { s with ram := [(0x4, 0x4#4)] })
      (fun t => t.pc == 0x2#14 && !t.sf && t.ram.read 0x4 == some 0x4#4) = true := by decide

/-- R306: V269 and V270 of 95_test_vectors.md. -/
theorem test_ttcfs :
    runs .rom4K 0x0000 [0x52#8] (fun s => s)
      (fun t => t.pc == 0x1#14 && t.cf && !t.sf) = true ∧
    runs .rom4K 0x0000 [0x52#8] (fun s => { s with cf := true })
      (fun t => t.pc == 0x1#14 && t.cf && t.sf) = true := by decide

/-- R308: V273 and V275 of 95_test_vectors.md. -/
theorem test_tzs :
    runs .rom4K 0x0000 [0x5B#8] (fun s => { s with zf := true })
      (fun t => t.pc == 0x1#14 && t.zf && t.sf) = true ∧
    runs .rom4K 0x0000 [0x5B#8] (fun s => s)
      (fun t => t.pc == 0x1#14 && !t.zf && !t.sf) = true := by decide

/-- R309: V276 and V278 of 95_test_vectors.md. -/
theorem test_xoram :
    runs .rom4K 0x0000 [0x79#8] (fun s => { s with acc := 0xC#4, hr := 0x0#4, lr := 0x0#4, ram := [(0x0, 0xA#4)] })
      (fun t => t.acc == 0x6#4 && t.hr == 0x0#4 && t.lr == 0x0#4 && t.pc == 0x1#14 && !t.zf && t.sf && t.ram.read 0x0 == some 0xA#4) = true ∧
    runs .rom4K 0x0000 [0x79#8] (fun s => { s with acc := 0x6#4, hr := 0x0#4, lr := 0x0#4, ram := [(0x0, 0x6#4)] })
      (fun t => t.acc == 0x0#4 && t.hr == 0x0#4 && t.lr == 0x0#4 && t.pc == 0x1#14 && t.zf && !t.sf && t.ram.read 0x0 == some 0x6#4) = true := by decide

/-! The port reads: V98, V109, V255, V271 and V257, for every answer v of the environment. -/

theorem test_ina (v : Nibble) (h : Config.portInput 0 3#5 = v) :
    step (placed .rom4K 0 [0x6F#8, 0x43#8]) = .next { placed .rom4K 0 [0x6F#8, 0x43#8] with
      acc := v, zf := v == 0#4, sf := !(v == 0#4), pc := 2#14, portReads := 1, events := [.read 3#5 v] } := by subst h; rfl

theorem test_inm (v : Nibble) (h : Config.portInput 0 1#5 = v) :
    step { placed .rom4K 0 [0x6F#8, 0xC1#8] with hr := 5#4, zf := true } = .next { placed .rom4K 0 [0x6F#8, 0xC1#8] with
      hr := 5#4, zf := true, ram := [(0x50, v)], sf := !(v == 0#4), pc := 2#14, portReads := 1, events := [.read 1#5 v] } := by
  subst h; rfl

theorem test_tfp (v : Nibble) (h : Config.portInput 0 3#5 = v) :
    step (placed .rom4K 0 [0x6D#8, 0x23#8]) = .next { placed .rom4K 0 [0x6D#8, 0x23#8] with
      sf := !v.getLsbD 2, pc := 2#14, portReads := 1, events := [.read 3#5 v] } := by subst h; rfl

theorem test_ttp (v : Nibble) (h : Config.portInput 0 0#5 = v) :
    step (placed .rom4K 0 [0x6D#8, 0x90#8]) = .next { placed .rom4K 0 [0x6D#8, 0x90#8] with
      sf := v.getLsbD 1, pc := 2#14, portReads := 1, events := [.read 0#5 v] } := by subst h; rfl

theorem test_tfpl (v : Nibble) (h : Config.portInput 0 7#5 = v) :
    step { placed .rom4K 0 [0x61#8] with lr := 0xE#4 } = .next { placed .rom4K 0 [0x61#8] with
      lr := 0xE#4, sf := !v.getLsbD 2, pc := 1#14, portReads := 1, events := [.read 7#5 v] } := by subst h; rfl


/-! ### Stops and boundaries -/

/-- A step that ends in this fault. -/
def faults (s : State) (f : Fault) : Bool :=
  match step s with
  | .fault g => g == f
  | _ => false

/-- 60_exceptions.md R401: each fault, with what it reports. -/
theorem test_faults :
    faults { placed .rom4K 0x10 [0x6E#8, 0xA7#8] with acc := 1#4 } (.reservedEncoding [0x6E#8, 0xA7#8] 0x10#14) = true ∧
    faults { placed .rom4K 0 [0x5A#8] with hr := 0xF#4 } (.dataAddress 0xF0#8) = true ∧
    faults (placed .rom4K 0xFFF [0x6E#8]) (.programAddress 0x1000) = true ∧
    faults { placed .rom4K 0 [0x4A#8, 0x13#8] with params := { Params.default with writable := 0#32 } } (.portAccess 3#5) = true ∧
    faults (placed .rom4K 0 [0x5A#8]) (.unwrittenRead (.ram 0#8)) = true ∧
    faults (placed .rom4K 0 [0x4F#8]) (.unwrittenRead (.stackPc 1#4)) = true := by decide

/-- One source per latch: source i at vector 2i + 2, enabled by the values of EIR whose bit i mod 4 is set. -/
def sources : List IntSource :=
  [⟨2, 6#13, 0xF0F0#16⟩, ⟨0, 2#13, 0xAAAA#16⟩, ⟨1, 4#13, 0xCCCC#16⟩, ⟨3, 8#13, 0xFF00#16⟩, ⟨4, 10#13, 0xAAAA#16⟩, ⟨5, 12#13, 0xCCCC#16⟩]

/-- A state at an instruction boundary with interrupts on, EIR = 3, latches 1 and 0 set, the first source in the list not requesting. -/
def interrupting : State :=
  { placed .rom4K 0x123 [0x56#8] with
    params := { Params.default with intConfig := some sources }, eif := true, eir := 3#4, il := 0b000011#6, sp := 0xF#4,
    cf := true, sf := true }

/-- 60_exceptions.md R407: entry saves PC and the flags, clears EIF and the latch, and goes to the vector. -/
theorem test_interrupt_entry :
    (match step interrupting with
      | .next t => t.pc == 2#14 && t.sp == 0xE#4 && !t.eif && t.il == 0b000010#6 &&
          t.stack.read 15 == some ⟨0x123#14, some ⟨true, false, true⟩⟩
      | _ => false) = true := by decide

/-- 60_exceptions.md R401: with INT_CONFIG absent the same boundary is refused. -/
theorem test_interrupt_unconfigured :
    step { interrupting with params := Params.default } = .refused .interruptUnconfigured := rfl

/-- 60_exceptions.md R413: the agents' move comes before the instruction: TA is replaced and then read. -/
theorem test_agent_move :
    (match step { placed .rom4K 0 [0x6A#8, 0xF5#8] with agent := [⟨some 0xABC#12, none, 0b100000#6⟩] } with
      | .next t => t.acc == 0xB#4 && t.ta == 0xABC#12 && t.tb == 0#12 && t.il == 0b100000#6 && t.agent == []
      | _ => false) = true := by decide

/-! ### Witnesses: what meets the hypotheses of the statements, at the boundaries of their ranges -/

/-- HL = 25h, Acc = 9, a cell there holding 8, the first and the last valid cells holding values, program bytes. -/
def busy : State :=
  { placed .rom4K 0x40 [0x70#8] with
    acc := 9#4, hr := 2#4, lr := 5#4, cf := true, sf := true,
    ram := [(0, 3#4), (1, 4#4), (0x0F, 1#4), (0x25, 8#4), (0xEC, 6#4), (0xED, 7#4), (0xEF, 2#4)] }

/-- For MemoryIntoAccumulator, ArithmeticOnCell, BitwiseLogic, Compares, LoadFromCell, Exchanges, BitsOfCells, TestsIntoStatusFlag. -/
theorem witness_cellHolds : busy.cellHolds busy.hl 8#4 ∧ busy.cellHolds 0x00#8 3#4 ∧ busy.cellHolds 0xEF#8 2#4 ∧
    busy.cellHolds (zeroPage 0#4) 3#4 ∧ busy.cellHolds (zeroPage 15#4) 1#4 := by
  refine ⟨⟨?_, ?_⟩, ⟨?_, ?_⟩, ⟨?_, ?_⟩, ⟨?_, ?_⟩, ⟨?_, ?_⟩⟩ <;> decide

/-- The cell at HL is the last one there is, or the first. -/
theorem witness_cellHolds_at_the_ends :
    { busy with hr := 0xE#4, lr := 0xF#4 }.cellHolds { busy with hr := 0xE#4, lr := 0xF#4 }.hl 2#4 ∧
    { busy with hr := 0#4, lr := 0#4 }.cellHolds { busy with hr := 0#4, lr := 0#4 }.hl 3#4 := by
  refine ⟨⟨?_, ?_⟩, ⟨?_, ?_⟩⟩ <;> decide

theorem witness_DecodeEncodeRoundTrip :
    Params.default.wf = true ∧ Instr.wf Params.default (.sep 1#4 0#2) = true ∧ Instr.wf Params.default .exae = true ∧
    Instr.wf Params.default (.ldhl 0xFC#8) = true ∧ Instr.wf Params.default (.lda 0xFB#8) = true ∧
    (onChip .rom8K).wf = true ∧ Instr.wf (onChip .rom8K) (.slbr 0x1FFF#13) = true := by decide

theorem witness_DecodedBytesAreTheEncoding :
    decode Params.default [0x49#8, 0x35#8, 0x00#8] = .instr (.add 3#4 5#4) [0x00#8] ∧
    decode (onChip .rom8K) [0x57#8, 0xC0#8, 0x01#8] = .instr (.slbr 1#13) [] ∧
    decode { Params.default with ramSize := 0 } [0x75#8] = .instr .exae [] := by decide

theorem witness_FirstByteDecidesLength :
    decode Params.default [0x6A#8, 0xF4#8] = .instr .ldatal [] ∧ decode Params.default [0x6A#8, 0x10#8, 0x00#8] = .instr (.lda 0x10#8) [0x00#8] := by
  decide

theorem witness_OneByteOperandFormats : decode Params.default [0x3F#8] = .instr (.sbr 0x3F#6) [] := by decide

theorem witness_PortAndLatchFormats :
    (∀ b ∈ [0x20#8, 0x3F#8, 0x50#8, 0xBF#8, 0xD0#8, 0xFF#8],
      ((0x20 ≤ b.toNat ∧ b.toNat ≤ 0x3F) ∨ (0x50 ≤ b.toNat ∧ b.toNat ≤ 0xBF) ∨ (0xD0 ≤ b.toNat)) ∧
      decode Params.default [0x6F#8, b] = .reserved .portGroup [0x6F#8, b]) ∧
    (∀ b ∈ [0x1F#8, 0x40#8, 0x4F#8, 0xC0#8, 0xCF#8],
      ¬((0x20 ≤ b.toNat ∧ b.toNat ≤ 0x3F) ∨ (0x50 ≤ b.toNat ∧ b.toNat ≤ 0xBF) ∨ (0xD0 ≤ b.toNat))) := by decide

theorem witness_ProgramAddressFormats :
    decode Params.default [0x40#8, 0x00#8] = .instr (.lcall 0#11) [] ∧ decode Params.default [0x47#8, 0xFF#8] = .instr (.lcall 0x7FF#11) [] ∧
    decode Params.default [0xC0#8, 0x00#8] = .instr (.lbr 0#12) [] ∧ decode Params.default [0xCF#8, 0xFF#8] = .instr (.lbr 0xFFF#12) [] ∧
    (∃ t, exec (.lcall 0x7FF#11) busy = .next t) ∧ busy.sf = true ∧ (∃ t, exec (.lbr 0xFFF#12) busy = .next t) :=
  ⟨by decide, by decide, by decide, by decide, ⟨_, rfl⟩, by decide, ⟨_, rfl⟩⟩

/-- Three bytes that end with program memory, on the 8K chip. -/
theorem witness_StepRunsDecodedInstruction :
    (placed .rom8K 0x1FFD [0x55#8, 0xCF#8, 0xFF#8]).atBoundary.boundary = .run ∧
    (placed .rom8K 0x1FFD [0x55#8, 0xCF#8, 0xFF#8]).atBoundary.bytesAtPc [0x55#8, 0xCF#8, 0xFF#8] ∧
    decode (onChip .rom8K) [0x55#8, 0xCF#8, 0xFF#8] = .instr (.slbr 0x1FFF#13) [] ∧
    (placed .rom8K 0x1FFD [0x55#8, 0xCF#8, 0xFF#8]).agent = [] ∧
    { interrupting with eif := false, agent := [⟨none, none, 1#6⟩] }.atBoundary.boundary = .run ∧
    { interrupting with eif := false, agent := [⟨none, none, 1#6⟩] }.atBoundary.bytesAtPc [0x56#8] := by
  refine ⟨by decide, ⟨by decide, by decide⟩, by decide, by decide, by decide, ⟨by decide, by decide⟩⟩

/-- One state for each clause: just past program memory; the last byte, which the image lacks; the first byte of two in the last place; the
second and the third byte of SLBR lacking; its third byte outside program memory; bytes that are no instruction; and a boundary with an
agents' move to come. -/
theorem witness_StepFetchFaults :
    ((placed .rom4K 0x1000 []).atBoundary.boundary = .run ∧ Chip.romSize .rom4K ≤ (0x1000#14).toNat) ∧
    ((placed .rom4K 0xFFF []).atBoundary.boundary = .run ∧ (placed .rom4K 0xFFF []).rom.read 0xFFF = none) ∧
    ((placed .rom4K 0xFFF [0x6E#8]).bytesAtPc [0x6E#8] ∧ decode Params.default [0x6E#8] = .needMore ∧ 0xFFF + 1 = Chip.romSize .rom4K) ∧
    ((placed .rom8K 0x1FFD [0x57#8]).bytesAtPc [0x57#8] ∧ decode (onChip .rom8K) [0x57#8] = .needMore ∧
      (placed .rom8K 0x1FFD [0x57#8]).rom.read (0x1FFD + 1) = none) ∧
    ((placed .rom8K 0x1FFD [0x57#8, 0xC0#8]).bytesAtPc [0x57#8, 0xC0#8] ∧ decode (onChip .rom8K) [0x57#8, 0xC0#8] = .needMore ∧
      (placed .rom8K 0x1FFD [0x57#8, 0xC0#8]).rom.read (0x1FFD + 2) = none) ∧
    ((placed .rom8K 0x1FFE [0x57#8, 0xC0#8]).bytesAtPc [0x57#8, 0xC0#8] ∧ 0x1FFE + 2 = Chip.romSize .rom8K) ∧
    ((placed .rom4K 0xFFE [0x6C#8, 0x3F#8]).bytesAtPc [0x6C#8, 0x3F#8] ∧
      decode Params.default [0x6C#8, 0x3F#8] = .reserved .bitGroup [0x6C#8, 0x3F#8]) ∧
    { placed .rom4K 0x1000 [] with agent := [⟨none, none, 1#6⟩] }.atBoundary.boundary = .run := by
  refine ⟨by decide, by decide, ⟨⟨?_, ?_⟩, ?_⟩, ⟨⟨?_, ?_⟩, ?_⟩, ⟨⟨?_, ?_⟩, ?_⟩, ⟨⟨?_, ?_⟩, ?_⟩, ⟨⟨?_, ?_⟩, ?_⟩, ?_⟩ <;> decide

theorem witness_OutsideAgentMove : { busy with agent := [⟨some 1#12, none, 0x3F#6⟩] }.agent = ⟨some 1#12, none, 0x3F#6⟩ :: [] := by
  decide

/-- Latch 2's source comes first and does not request; latch 0's source is the next, and its latch is set by the move at this boundary. -/
theorem witness_InterruptEntry :
    { interrupting with il := 0b000010#6, agent := [⟨none, none, 1#6⟩] }.atBoundary = interrupting ∧ interrupting.eif = true ∧
    interrupting.params.intConfig = some ([⟨2, 6#13, 0xF0F0#16⟩] ++ ⟨0, 2#13, 0xAAAA#16⟩ ::
      [⟨1, 4#13, 0xCCCC#16⟩, ⟨3, 8#13, 0xFF00#16⟩, ⟨4, 10#13, 0xAAAA#16⟩, ⟨5, 12#13, 0xCCCC#16⟩]) ∧
    (∀ x ∈ [(⟨2, 6#13, 0xF0F0#16⟩ : IntSource)],
      ¬(interrupting.il.getLsbD x.latch.val = true ∧ interrupting.eir ≠ 0#4 ∧ x.enables.getLsbD interrupting.eir.toNat = true)) ∧
    interrupting.il.getLsbD 0 = true ∧ interrupting.eir ≠ 0#4 ∧ (0xAAAA#16).getLsbD interrupting.eir.toNat = true := by decide

theorem witness_InterruptMasking :
    { interrupting with eif := false }.eif = false ∧ { interrupting with il := 0#6 }.il = 0#6 ∧
    (interrupting.params.intConfig = some sources ∧ { interrupting with eir := 0#4 }.eir = 0#4) ∧
    (∀ x ∈ sources, { interrupting with il := 0b100#6 }.il.getLsbD x.latch.val = true →
      x.enables.getLsbD { interrupting with il := 0b100#6 }.eir.toNat = false) := by decide

/-- The latch is set by the move at this boundary. -/
theorem witness_InterruptRefusal :
    { interrupting with params := Params.default, il := 0#6, agent := [⟨none, none, 1#6⟩] }.eif = true ∧
    { interrupting with params := Params.default, il := 0#6, agent := [⟨none, none, 1#6⟩] }.atBoundary.il ≠ 0#6 ∧
    Params.default.intConfig = none := by decide

/-- The last offset that keeps SBR in its page, with no move to come; the last LBR of a bank that does not end the bank, with one. -/
theorem witness_SelfLoopEndsRun :
    ({ placed .rom4K 0x7E [0x3E#8] with sf := true }.atBoundary.boundary = .run ∧
      { placed .rom4K 0x7E [0x3E#8] with sf := true }.agent = [] ∧
      { placed .rom4K 0x7E [0x3E#8] with sf := true }.bytesAtPc [0x3E#8] ∧ (0x7E#14).toNat % 64 = (0x3E#6).toNat) ∧
    ({ placed .rom8K 0x1FFD [0xCF#8, 0xFD#8] with sf := true, agent := [⟨some 1#12, none, 1#6⟩] }.atBoundary.boundary = .run ∧
      { placed .rom8K 0x1FFD [0xCF#8, 0xFD#8] with sf := true, agent := [⟨some 1#12, none, 1#6⟩] }.bytesAtPc [0xCF#8, 0xFD#8] ∧
      (0x1FFD#14).toNat % 4096 = (0xFFD#12).toNat) := by
  refine ⟨⟨by decide, by decide, ⟨by decide, by decide⟩, by decide⟩, ⟨by decide, ⟨by decide, by decide⟩, by decide⟩⟩

theorem witness_LoadImmediate_fetch :
    (placed .rom2K 0x800 []).params.chip.romSize ≤ (placed .rom2K 0x800 []).pc.toNat ∧
    (placed .rom2K 0x7FF []).pc.toNat < (placed .rom2K 0x7FF []).params.chip.romSize ∧ (placed .rom2K 0x7FF []).rom.read 0x7FF = none := by
  decide

theorem witness_LoadFromRegister : (Instr.ldasp, busy.sp) ∈ [(Instr.ldadpl, busy.dp.extractLsb' 0 4), (.ldasp, busy.sp)] := by decide

/-- The first and the last pair of the address space of RAM_SIZE = 240. -/
theorem witness_PointerPairLoadAndExchange :
    ((0x00#8).toNat % 4 = 0 ∧ busy.cellHolds 0x00#8 3#4 ∧ busy.cellHolds (0x00#8 + 1#8) 4#4) ∧
    ((0xEC#8).toNat % 4 = 0 ∧ busy.cellHolds 0xEC#8 6#4 ∧ busy.cellHolds (0xEC#8 + 1#8) 7#4) := by
  refine ⟨⟨?_, ⟨?_, ?_⟩, ⟨?_, ?_⟩⟩, ⟨?_, ⟨?_, ?_⟩, ⟨?_, ?_⟩⟩⟩ <;> decide

/-- The last byte of each chip's table, the byte before it, which the image lacks, and the first DP past the 2K chip's. -/
theorem witness_TableLoads :
    ({ placed .rom2K 0x7FF [0xA5#8] with dp := 0x7FF#12 }.dp.toNat < 0x800 ∧
      (placed .rom2K 0x7FF [0xA5#8]).rom.read (0x7FF + 0) = some 0xA5#8 ∧ (placed .rom2K 0x7FF [0xA5#8]).rom.read (0x7FE + 0) = none) ∧
    ((onChip .rom8K).chip ≠ .rom2K ∧ (placed .rom8K 0x1FFF [0xA5#8]).rom.read (0xFFF + 0x1000) = some 0xA5#8 ∧
      (placed .rom8K 0x1FFF [0xA5#8]).rom.read (0x000 + 0x1000) = none) ∧
    ((onChip .rom2K).chip = .rom2K ∧ 0x800 ≤ (0x800#12).toNat) := by decide

/-- For StoreToCell and StoreThenStepPointer. -/
theorem witness_StoreToCell : busy.validData 0xEF#8 = true ∧ busy.validData 0x00#8 = true ∧ busy.validData busy.hl = true ∧
    busy.validData (zeroPage 15#4) = true ∧ { busy with params := { busy.params with ramSize := 16 } }.validData 0x0F#8 = true := by
  decide

theorem witness_WindowAddressesAreRegisters :
    (0xFF#8, Instr.ldasp, Instr.stasp) ∈ [(0xF4#8, Instr.ldatal, Instr.statal), (0xFF#8, .ldasp, .stasp)] := by decide

theorem witness_GeneralFlag : (onChip .rom2K).chip ≠ .rom8K ∧ (onChip .rom4K).chip ≠ .rom8K ∧ (onChip .rom8K).chip = .rom8K := by decide

theorem witness_PortReads : busy.readable (portOf 0#4) = true ∧ busy.readable (portOf 15#4) = true ∧
    busy.validData busy.hl = true ∧ ((5#5).toNat = 4 + busy.lr.toNat / 4 ∧ busy.readable 5#5 = true) ∧
    ((4#5).toNat = 4 + { busy with lr := 3#4 }.lr.toNat / 4 ∧ (7#5).toNat = 4 + { busy with lr := 15#4 }.lr.toNat / 4) := by decide

theorem witness_PortOutput : busy.writable (portOf 15#4) = true ∧ busy.writable 31#5 = true ∧ busy.writable 0#5 = true := by decide

/-- The first and the last port CLPL and SEPL can name. -/
theorem witness_PortBits : busy.writable (portOf 0#4) = true ∧ 1#4 ≠ 0#4 ∧
    ((4#5).toNat = 4 + { busy with lr := 3#4 }.lr.toNat / 4 ∧ busy.writable 4#5 = true) ∧
    ((7#5).toNat = 4 + { busy with lr := 15#4 }.lr.toNat / 4 ∧ busy.writable 7#5 = true) := by decide

/-- The last byte of the last table: CF = 1 and the cell holding Fh, on the 8K chip; and the first, which the image lacks. -/
theorem witness_TableDrivenOutput :
    { placed .rom8K 0x1FFF [0x21#8] with cf := true, ram := [(0, 15#4)] }.cellHolds 0#8 15#4 ∧
    (placed .rom8K 0x1FFF [0x21#8]).rom.read (Chip.romSize .rom8K - 32 + 16 * true.toNat + (15#4).toNat) = some 0x21#8 ∧
    (placed .rom8K 0x1FFF [0x21#8]).writable 1#5 = true ∧ (placed .rom8K 0x1FFF [0x21#8]).writable 2#5 = true ∧
    (placed .rom8K 0x1FFF [0x21#8]).rom.read (Chip.romSize .rom8K - 32 + 16 * false.toNat + (0#4).toNat) = none := by
  refine ⟨⟨?_, ?_⟩, ?_, ?_, ?_, ?_⟩ <;> decide

/-- SBR in the last byte of the 13-bit space, LBR in the last two. -/
theorem witness_Branches :
    (placed .rom8K 0x1FFF []).pc.toNat ≤ 0x1FFF ∧ (onChip .rom4K).chip ≠ .rom8K ∧
    ((onChip .rom8K).chip = .rom8K ∧ (placed .rom8K 0x1FFE []).pc.toNat ≤ 0x1FFE) := by decide

theorem witness_Returns :
    { busy with sp := 15#4, stack := [(0, ⟨5#14, some ⟨true, false, true⟩⟩)] }.stack.read (15#4 + 1#4).toNat =
      some ⟨5#14, some ⟨true, false, true⟩⟩ ∧
    { busy with sp := 2#4, stack := [(3, ⟨5#14, none⟩)] }.stack.read (2#4 + 1#4).toNat = some ⟨5#14, none⟩ ∧
    busy.stack.read (busy.sp + 1#4).toNat = none := by decide

/-- The state after the call itself, SP at 0 so that it wraps. -/
theorem witness_CallThenReturn :
    (∃ t u : State, u.stack = t.stack ∧ u.sp = t.sp ∧ exec (.lcall 0x210#11) busy = .next t) ∧
    (∃ t u : State, u.stack = t.stack ∧ u.sp = t.sp ∧ exec (.scall 0#4) busy = .next t) :=
  ⟨⟨_, _, rfl, rfl, rfl⟩, ⟨_, _, rfl, rfl, rfl⟩⟩

theorem witness_InterruptThenReturn : ∃ u : State,
    u.stack = (busy.enterInterrupt ⟨0, 2#13, 0#16⟩).stack ∧ u.sp = (busy.enterInterrupt ⟨0, 2#13, 0#16⟩).sp := ⟨_, rfl, rfl⟩

theorem witness_NoOperation : keepsSf .ret = true ∧
    ∃ t, exec .ret { busy with stack := [(1, ⟨5#14, none⟩)] } = .next t := ⟨rfl, ⟨_, rfl⟩⟩

theorem witness_ReservedForms : (0x01#8).toNat % 4 ≠ 0 ∧ (0xFF#8).toNat % 4 ≠ 0 ∧ (onChip .rom2K).chip ≠ .rom8K ∧
    Params.default.exaeOpcode ≠ some 0x7A#8 ∧ { Params.default with exaeOpcode := some 0x7A#8 }.exaeOpcode ≠ some 0x75#8 ∧
    ({ onChip .rom8K with slbrPrefix := none }.chip = .rom8K ∧ { onChip .rom8K with slbrPrefix := none }.slbrPrefix = none) ∧
    decode (onChip .rom8K) [0x57#8, 0xC0#8, 0x01#8] = .instr (.slbr 1#13) [] := by decide

/-- The first address past RAM_SIZE, F0h and FFh are no data addresses; with RAM_SIZE = 17 the pair at 10h has its first cell only; with an
unlawful RAM_SIZE = 15 the zero page lacks its last cell. -/
theorem witness_InvalidDataAddress :
    { busy with hr := 0xF#4, lr := 0#4 }.validData { busy with hr := 0xF#4, lr := 0#4 }.hl = false ∧ busy.readable (portOf 15#4) = true ∧
    { busy with params := { busy.params with ramSize := 16 } }.validData 0x10#8 = false ∧
    (busy.validData 0xF0#8 = false ∧ (0xF0#8).toNat < 0xF4 ∧ (0xF0#8).toNat % 4 = 0) ∧ busy.validData 0xF7#8 = false ∧
    busy.validData 0xFB#8 = false ∧ (busy.validData 0xFC#8 = false ∧ (0xFC#8).toNat % 4 = 0) ∧
    ((0x10#8).toNat % 4 = 0 ∧ { busy with params := { busy.params with ramSize := 17 }, ram := [(0x10, 9#4)] }.cellHolds 0x10#8 9#4 ∧
      { busy with params := { busy.params with ramSize := 17 } }.validData (0x10#8 + 1#8) = false) ∧
    { busy with params := { busy.params with ramSize := 15 } }.validData (zeroPage 15#4) = false := by
  refine ⟨by decide, by decide, by decide, by decide, by decide, by decide, by decide, ⟨by decide, ⟨by decide, by decide⟩, by decide⟩, by decide⟩

theorem witness_UnwrittenCell :
    ({ busy with lr := 6#4 }.validData { busy with lr := 6#4 }.hl = true ∧ busy.ram.read 0x26 = none) ∧
    (busy.validData 0xEE#8 = true ∧ busy.ram.read 0xEE = none) ∧
    ((0xE8#8).toNat % 4 = 0 ∧ busy.validData 0xE8#8 = true ∧ busy.ram.read 0xE8 = none) ∧
    ((0xEC#8).toNat % 4 = 0 ∧ { busy with ram := [(0xEC, 6#4)] }.cellHolds 0xEC#8 6#4 ∧ busy.validData (0xEC#8 + 1#8) = true ∧
      { busy with ram := [(0xEC, 6#4)] }.ram.read (0xEC + 1) = none) ∧
    (busy.validData (zeroPage 14#4) = true ∧ busy.ram.read 14 = none) := by
  refine ⟨by decide, by decide, by decide, ⟨by decide, ⟨by decide, by decide⟩, by decide⟩, by decide⟩

/-- No port readable, none writable; the highest port alone not writable; port 2 alone not writable. -/
theorem witness_PortAccessFaults :
    State.reset.readable 16#5 = false ∧ { busy with params := { busy.params with readable := 0#32 } }.readable (portOf 15#4) = false ∧
    { busy with params := { busy.params with writable := 0#32 } }.writable (portOf 1#4) = false ∧ 1#4 ≠ 0#4 ∧
    { busy with params := { busy.params with writable := 0x7FFFFFFF#32 } }.writable 31#5 = false ∧
    ((4#5).toNat = 4 + { busy with lr := 3#4 }.lr.toNat / 4 ∧ (7#5).toNat = 4 + { busy with lr := 15#4 }.lr.toNat / 4 ∧
      { busy with params := { busy.params with readable := 0x7F#32 } }.readable 7#5 = false ∧
      { busy with params := { busy.params with writable := 0xFFFFFFEF#32 } }.writable 4#5 = false) ∧
    ({ placed .rom8K 0x1FFF [0x21#8] with cf := true, ram := [(0, 15#4)] }.cellHolds 0#8 15#4 ∧
      (placed .rom8K 0x1FFF [0x21#8]).rom.read (Chip.romSize .rom8K - 32 + 16 * true.toNat + (15#4).toNat) = some 0x21#8 ∧
      { busy with params := { busy.params with writable := 0xFFFFFFFD#32 } }.writable 1#5 = false ∧
      { busy with params := { busy.params with writable := 0xFFFFFFFB#32 } }.writable 1#5 = true ∧
      { busy with params := { busy.params with writable := 0xFFFFFFFB#32 } }.writable 2#5 = false) := by
  refine ⟨by decide, by decide, by decide, by decide, by decide, by decide, ⟨⟨by decide, by decide⟩, by decide, by decide, by decide, by decide⟩⟩

/-- For WorkingRegisterWriters, CarryZeroGeneralWriters, StatusFlagDiscipline and MemoryAndPortWriters: an instruction that runs and writes none of Acc, HR, LR, CF, ZF, data memory or ports, and does not jump: NOP; one that sets SF: LDL. -/
theorem witness_writers : (∃ t, exec .nop busy = .next t) ∧ writesAcc .nop = false ∧ writesHr .nop = false ∧ writesLr .nop = false ∧
    writesCf .nop = false ∧ writesZf .nop = false ∧ writesRam .nop = false ∧ writesPort .nop = false ∧ readsPort .nop = false ∧
    jumps .nop = false ∧ keepsSf .nop = true ∧ (∃ t, exec (.ldl 3#4) busy = .next t) ∧ setsSf (.ldl 3#4) = true :=
  ⟨⟨_, rfl⟩, rfl, rfl, rfl, rfl, rfl, rfl, rfl, rfl, rfl, rfl, ⟨_, rfl⟩, rfl⟩

/-- Each special register does change under one of its writers. -/
theorem witness_SpecialRegisterWriters :
    (match exec (.lcall 0#11) busy with | .next t => t.sp != busy.sp | _ => false) = true ∧
    (match exec .stadph busy with | .next t => t.dp != busy.dp | _ => false) = true ∧
    (match exec .statal busy with | .next t => t.ta != busy.ta | _ => false) = true ∧
    (match exec (.sta 0xFA#8) busy with | .next t => t.tb != busy.tb | _ => false) = true ∧
    (match exec (.eicil 0#6) busy with | .next t => t.eif != busy.eif | _ => false) = true ∧
    (match exec .exae busy with | .next t => t.eir != busy.eir | _ => false) = true ∧
    (match exec (.cil 2#6) interrupting with | .next t => t.il != interrupting.il && t.il.getLsbD 1 | _ => false) = true ∧
    (match exec (.scall 1#4) busy with | .next t => t.stack != busy.stack | _ => false) = true := by decide

theorem witness_MemoryReadAfterWrite : (∃ t, busy.memWrite 0xEF#8 5#4 = .ok t) ∧ 0x00#8 ≠ 0xEF#8 := ⟨⟨_, rfl⟩, by decide⟩

/-- The invariant holds of a state with written memories and a step goes on from it; for EventsInProgramOrder and ProgramNeverChanges too. -/
theorem witness_InvariantKept : { busy with ram := [(0x25, 8#4)], stack := [(15, ⟨0x2000#14, none⟩)] }.inv = true ∧
    (match step { busy with ram := [(0x25, 8#4)], stack := [(15, ⟨0x2000#14, none⟩)] } with | .next _ => true | _ => false) = true := by
  decide

theorem witness_InvariantAtReset : Params.default.wf = true ∧ (onChip .rom8K).wf = true ∧
    { onChip .rom2K with intConfig := some sources, resetPc := 0x1FFF#13, ramSize := 16 }.wf = true := by decide

/-- safeFor: the spec's own self-loop runs on. -/
theorem test_safe_run : safeFor 3 { placed .rom4K 0 [0x00#8] with sf := true } = true := by decide

end Sys2Proof.Tests
end

section
/-! SUPPORT AND PROOF. Testing a bit of a nibble after one bit of it was cleared or set (00_scope.md R15). -/

namespace Sys2Proof.Machine

/-- `1 << b` is "the 4-bit value with only bit b set" (00_scope.md R7). -/
@[simp] theorem testBit_bitMask (b j : BitNo) : testBit (bitMask b) j = decide (j = b) := by
  have hb : b.toNat < 4 := b.isLt
  rw [testBit, bitMask, ← BitVec.twoPow_eq, BitVec.getLsbD_twoPow]
  simp only [hb, decide_true, Bool.true_and, BitVec.toNat_inj, eq_comm]

@[simp] theorem testBit_and (v w : Nibble) (j : BitNo) : testBit (v &&& w) j = (testBit v j && testBit w j) :=
  BitVec.getLsbD_and

@[simp] theorem testBit_or (v w : Nibble) (j : BitNo) : testBit (v ||| w) j = (testBit v j || testBit w j) :=
  BitVec.getLsbD_or

@[simp] theorem testBit_not (v : Nibble) (j : BitNo) : testBit (~~~v) j = !testBit v j := by
  have hj : j.toNat < 4 := j.isLt
  simp [testBit, hj]

/-- Clearing bit b leaves the other three bits; bit b reads 0. -/
@[simp] theorem testBit_clearBit (v : Nibble) (b j : BitNo) :
    testBit (clearBit v b) j = (testBit v j && decide (j ≠ b)) := by
  rw [clearBit, testBit_and, testBit_not, testBit_bitMask, decide_not]

/-- Setting bit b leaves the other three bits; bit b reads 1. -/
@[simp] theorem testBit_setBit (v : Nibble) (b j : BitNo) :
    testBit (setBit v b) j = (testBit v j || decide (j = b)) := by
  rw [setBit, testBit_or, testBit_bitMask]

/-- Settles O32: testing is reading bit b by definition, the masks are `clearBit_eq` and `setBit_eq`, and what each bit reads
afterwards follows from the one bit of `bitMask`. -/
theorem bitHelpers : Obligations.BitHelpers := fun v b j =>
  ⟨rfl, testBit_clearBit v b j, clearBit_eq v b, testBit_setBit v b j, setBit_eq v b⟩

end Sys2Proof.Machine
end

section
/-! SUPPORT AND PROOF. The formats of one byte with an operand, those after 6Fh and 63h, and those with a program address (30_encoding.md
R93 to R95, R100 to R102): what the decoder reads from a byte put together from its fields, and, the other way, which first bytes a decoded
instruction can have. -/

namespace Sys2Proof

/-! The rows of the first byte, by its high nibble (30_encoding.md R106). -/

theorem decode_row4 (p : Params) {b : Byte} (rest : List Byte) (h : hi4 b = 0x4#4) : decode p (b :: rest) = decodeRow4 b rest := by
  simp only [decode, decodeFirst, h]

theorem decode_rowF (p : Params) {b : Byte} (rest : List Byte) (h : hi4 b = 0xF#4) : decode p (b :: rest) = decodeRowF b rest := by
  simp only [decode, decodeFirst, h]

/-- The four rows below 40h are SBR's. -/
theorem decode_of_hi4_lt_four (p : Params) {b : Byte} (rest : List Byte) (h : (hi4 b).toNat < 4) :
    decode p (b :: rest) = .instr (.sbr (b.extractLsb' 0 6)) rest := by
  rw [decode, decodeFirst]
  split
  case h_13 => rfl
  all_goals simp_all

/-- The first half of row 4 is LCALL's. -/
theorem decodeRow4_of_lo4_lt_eight {b : Byte} (c : Byte) (rest : List Byte) (h : (lo4 b).toNat < 8) :
    decodeRow4 b (c :: rest) = .instr (.lcall (b.extractLsb' 0 3 ++ c : BitVec 11)) rest := by
  unfold decodeRow4
  split
  case h_9 => rfl
  all_goals simp_all

/-! A byte put together from its fields, and what is read from it. -/

theorem hi4_toNat (b : Byte) : (hi4 b).toNat = b.toNat / 16 := by
  rw [hi4, BitVec.extractLsb'_toNat, Nat.shiftRight_eq_div_pow]
  omega

/-- The byte `1111 ttbb` lies in row F. -/
theorem hi4_typedBit (t b : BitVec 2) : hi4 (0b1111#4 ++ t ++ b : Byte) = 0xF#4 := by
  rw [hi4, BitVec.extractLsb'_append_eq_of_le (by decide)]
  exact BitVec.extractLsb'_append_eq_left

theorem type_typedBit (t b : BitVec 2) : (0b1111#4 ++ t ++ b : Byte).extractLsb' 2 2 = t := by
  rw [BitVec.extractLsb'_append_eq_of_le (by decide)]
  exact BitVec.extractLsb'_append_eq_right

/-- Format F1B (30_encoding.md R94): the four types are CLM, SEM, TFA, TFM. -/
theorem decode_typedBit (p : Params) (b : BitNo) (rest : List Byte) :
    decode p ((0b1111#4 ++ 0b00#2 ++ b : Byte) :: rest) = .instr (.clm b) rest ∧
    decode p ((0b1111#4 ++ 0b01#2 ++ b : Byte) :: rest) = .instr (.sem b) rest ∧
    decode p ((0b1111#4 ++ 0b10#2 ++ b : Byte) :: rest) = .instr (.tfa b) rest ∧
    decode p ((0b1111#4 ++ 0b11#2 ++ b : Byte) :: rest) = .instr (.tfm b) rest := by
  refine ⟨?_, ?_, ?_, ?_⟩ <;>
    rw [decode_rowF p rest (hi4_typedBit _ b), decodeRowF, type_typedBit, BitVec.extractLsb'_append_eq_right] <;> rfl

/-- Format F1A (30_encoding.md R95). -/
theorem decode_sbr (p : Params) (a : BitVec 6) (rest : List Byte) : decode p ((0b00#2 ++ a : Byte) :: rest) = .instr (.sbr a) rest := by
  have hrow : (hi4 (0b00#2 ++ a : Byte)).toNat < 4 := by revert a; decide
  rw [decode_of_hi4_lt_four p rest hrow, BitVec.extractLsb'_append_eq_right]

/-! What the first byte of a decoded instruction can be. -/

/-- The byte `b` is the first of the encoding of what was read. -/
def Decoded.beginsWith (p : Params) (b : Byte) : Decoded → Prop
  | .instr i _ => (encode p i).head? = some b
  | _ => True

theorem withByte_beginsWith {p : Params} {b : Byte} (rest : List Byte) {k : Byte → List Byte → Decoded}
    (h : ∀ c rest', (k c rest').beginsWith p b) : (withByte rest k).beginsWith p b := by
  cases rest with
  | nil => trivial
  | cons c rest' => exact h c rest'

theorem slbrFirst_of_slbrBank {p : Params} {b : Byte} {bank : BitVec 1} (h : slbrBank p b = some bank) : slbrFirst p bank = b := by
  unfold slbrBank at h
  unfold slbrFirst
  split at h
  · next hp => rw [hp]; grind
  · cases h

theorem decodeSlbr_beginsWith {p : Params} {b : Byte} {bank : BitVec 1} (h : slbrBank p b = some bank) (rest : List Byte) :
    (decodeSlbr bank b rest).beginsWith p b := by
  refine withByte_beginsWith rest fun c rest' => ?_
  split
  · refine withByte_beginsWith rest' fun d _ => ?_
    have hbank : (bank ++ lo4 c ++ d : BitVec 13).extractLsb' 12 1 = bank := by
      rw [BitVec.extractLsb'_append_eq_of_le (by decide)]
      exact BitVec.extractLsb'_append_eq_left
    rw [Decoded.beginsWith, encode, List.head?_cons, hbank, slbrFirst_of_slbrBank h]
  · trivial

theorem decodeExae_beginsWith (p : Params) (b : Byte) (rest : List Byte) : (decodeExae p b rest).beginsWith p b := by
  unfold decodeExae
  split
  · next h => rw [Decoded.beginsWith, encode, h]; rfl
  · trivial

theorem decodeTgs_beginsWith (p : Params) (rest : List Byte) : (decodeTgs p 0x54#8 rest).beginsWith p 0x54#8 := by
  unfold decodeTgs; split
  · rfl
  · trivial

theorem decodeGfOrSlbr_beginsWith {p : Params} {i : Instr} {b : Byte} (h : (encode p i).head? = some b) (rest : List Byte) :
    (decodeGfOrSlbr p i b rest).beginsWith p b := by
  unfold decodeGfOrSlbr
  split
  · exact h
  · split
    · next hbank => exact decodeSlbr_beginsWith hbank rest
    · trivial

theorem decodePair_beginsWith {p : Params} {mk : DataAddr → Instr} {b : Byte} (h : ∀ x, (encode p (mk x)).head? = some b)
    (rest : List Byte) : (decodePair mk b rest).beginsWith p b := by
  refine withByte_beginsWith rest fun x _ => ?_
  split
  · exact h x
  · trivial

theorem decodeStore_beginsWith (p : Params) (x : DataAddr) : (encode p (decodeStore x)).head? = some 0x69#8 := by
  unfold decodeStore; split <;> rfl

theorem decodeLoad_beginsWith (p : Params) (x : DataAddr) : (encode p (decodeLoad x)).head? = some 0x6A#8 := by
  unfold decodeLoad; split <;> rfl

theorem decodeLatch_beginsWith (p : Params) (c : Byte) (rest : List Byte) : (decodeLatch 0x63#8 c rest).beginsWith p 0x63#8 := by
  unfold decodeLatch; dsimp only; split <;> trivial

theorem decodeBit_beginsWith (p : Params) (c : Byte) (rest : List Byte) : (decodeBit 0x6C#8 c rest).beginsWith p 0x6C#8 := by
  unfold decodeBit; dsimp only; split <;> trivial

theorem decodePortBit_beginsWith (p : Params) (c : Byte) (rest : List Byte) : (decodePortBit 0x6D#8 c rest).beginsWith p 0x6D#8 := by
  unfold decodePortBit; dsimp only
  split
  case h_2 => split <;> trivial
  all_goals rfl

theorem decodeImmediate_beginsWith (p : Params) (c : Byte) (rest : List Byte) :
    (decodeImmediate 0x6E#8 c rest).beginsWith p 0x6E#8 := by
  unfold decodeImmediate; dsimp only; split <;> trivial

theorem decodePort_beginsWith (p : Params) (c : Byte) (rest : List Byte) : (decodePort 0x6F#8 c rest).beginsWith p 0x6F#8 := by
  unfold decodePort; split
  · rfl
  · split <;> trivial

/-- LCALL's first byte is put together from three address bits, in the first half of row 4. -/
theorem lcallFirst_of_nibble (l : Nibble) (h : l.toNat < 8) :
    (0b01000#5 ++ (0x4#4 ++ l : Byte).extractLsb' 0 3 : Byte) = 0x4#4 ++ l := by
  revert l; decide

theorem decodeRow4_beginsWith (p : Params) (l : Nibble) (rest : List Byte) :
    (decodeRow4 (0x4#4 ++ l) rest).beginsWith p (0x4#4 ++ l) := by
  rw [decodeRow4, lo4_append]
  split
  case h_1 | h_2 | h_3 | h_4 => exact withByte_beginsWith rest fun _ _ => rfl
  case h_5 | h_7 => exact decodePair_beginsWith (fun _ => rfl) rest
  case h_9 =>
    refine withByte_beginsWith rest fun c _ => ?_
    have hl : l.toNat < 8 := by simp only [imp_false] at *; bv_omega
    rw [Decoded.beginsWith, encode, List.head?_cons, BitVec.extractLsb'_append_eq_left, lcallFirst_of_nibble l hl]
  all_goals rfl

theorem decodeRow5_beginsWith (p : Params) (l : Nibble) (rest : List Byte) :
    (decodeRow5 p (0x5#4 ++ l) rest).beginsWith p (0x5#4 ++ l) := by
  rw [decodeRow5, lo4_append]
  split
  case h_5 => exact decodeTgs_beginsWith p rest
  case h_6 | h_8 => exact decodeGfOrSlbr_beginsWith rfl rest
  case h_16 =>
    obtain rfl : l = 0xF#4 := by simp only [imp_false] at *; bv_omega
    rfl
  all_goals rfl

theorem decodeRow6_beginsWith (p : Params) (l : Nibble) (rest : List Byte) :
    (decodeRow6 (0x6#4 ++ l) rest).beginsWith p (0x6#4 ++ l) := by
  rw [decodeRow6, lo4_append]
  split
  case h_4 => exact withByte_beginsWith rest (decodeLatch_beginsWith p)
  case h_9 | h_12 => exact withByte_beginsWith rest fun _ _ => rfl
  case h_10 => exact withByte_beginsWith rest fun x _ => decodeStore_beginsWith p x
  case h_11 => exact withByte_beginsWith rest fun x _ => decodeLoad_beginsWith p x
  case h_13 => exact withByte_beginsWith rest (decodeBit_beginsWith p)
  case h_14 => exact withByte_beginsWith rest (decodePortBit_beginsWith p)
  case h_15 => exact withByte_beginsWith rest (decodeImmediate_beginsWith p)
  case h_16 =>
    obtain rfl : l = 0xF#4 := by simp only [imp_false] at *; bv_omega
    exact withByte_beginsWith rest (decodePort_beginsWith p)
  all_goals rfl

theorem decodeRow7_beginsWith (p : Params) (l : Nibble) (rest : List Byte) :
    (decodeRow7 p (0x7#4 ++ l) rest).beginsWith p (0x7#4 ++ l) := by
  rw [decodeRow7, lo4_append]
  split
  case h_6 | h_11 => exact decodeExae_beginsWith p _ rest
  case h_16 =>
    obtain rfl : l = 0xF#4 := by simp only [imp_false] at *; bv_omega
    rfl
  all_goals rfl

theorem decodeRowF_beginsWith (p : Params) (l : Nibble) (rest : List Byte) :
    (decodeRowF (0xF#4 ++ l) rest).beginsWith p (0xF#4 ++ l) := by
  rw [decodeRowF]
  split
  all_goals
    simp only [Decoded.beginsWith, encode, List.head?_cons]
    revert l
    decide

/-- SBR's first byte is put together from its six address bits, in the rows below 40h. -/
theorem sbrFirst_of_nibbles (h l : Nibble) (hh : h.toNat < 4) : (0b00#2 ++ (h ++ l : Byte).extractLsb' 0 6 : Byte) = h ++ l := by
  revert h l; decide

/-- Whatever instruction is read, its encoding begins with the byte it was read from (30_encoding.md R90, R106). -/
theorem decode_beginsWith (p : Params) (b : Byte) (bs : List Byte) : (decode p (b :: bs)).beginsWith p b := by
  obtain ⟨h, l, rfl⟩ : ∃ h l : Nibble, b = h ++ l := ⟨hi4 b, lo4 b, (hi4_append_lo4 b).symm⟩
  rw [decode, decodeFirst, hi4_append, lo4_append]
  split
  case h_1 => exact decodeRow4_beginsWith p l bs
  case h_2 => exact decodeRow5_beginsWith p l bs
  case h_3 => exact decodeRow6_beginsWith p l bs
  case h_4 => exact decodeRow7_beginsWith p l bs
  case h_9 =>
    refine withByte_beginsWith bs fun c _ => ?_
    rw [Decoded.beginsWith, encode, List.head?_cons, BitVec.extractLsb'_append_eq_left]
  case h_12 => exact decodeRowF_beginsWith p l bs
  case h_13 =>
    have hh : h.toNat < 4 := by simp only [imp_false] at *; bv_omega
    rw [Decoded.beginsWith, encode, List.head?_cons, sbrFirst_of_nibbles h l hh]
  all_goals rfl

theorem encode_head_of_decode {p : Params} {b : Byte} {bs rest : List Byte} {i : Instr} (h : decode p (b :: bs) = .instr i rest) :
    (encode p i).head? = some b := by
  have hb := decode_beginsWith p b bs
  rwa [h] at hb

theorem firstByte_of_decode_sbr {p : Params} {b : Byte} {bs rest : List Byte} {a : BitVec 6}
    (h : decode p (b :: bs) = .instr (.sbr a) rest) : b = 0b00#2 ++ a :=
  (Option.some.inj (encode_head_of_decode h)).symm

theorem firstByte_of_decode_lcall {p : Params} {b : Byte} {bs rest : List Byte} {a : BitVec 11}
    (h : decode p (b :: bs) = .instr (.lcall a) rest) : b = 0b01000#5 ++ a.extractLsb' 8 3 :=
  (Option.some.inj (encode_head_of_decode h)).symm

theorem firstByte_of_decode_lbr {p : Params} {b : Byte} {bs rest : List Byte} {a : BitVec 12}
    (h : decode p (b :: bs) = .instr (.lbr a) rest) : b = 0b1100#4 ++ a.extractLsb' 8 4 :=
  (Option.some.inj (encode_head_of_decode h)).symm

/-- Format F1K (30_encoding.md R93): the high nibble selects the instruction, the low one is its operand. -/
theorem decode_immediateNibble (p : Params) (k : Nibble) (rest : List Byte) :
    decode p ((0x8#4 ++ k : Byte) :: rest) = .instr (.ldl k) rest ∧
    decode p ((0x9#4 ++ k : Byte) :: rest) = .instr (.ldh k) rest ∧
    decode p ((0xA#4 ++ k : Byte) :: rest) = .instr (.stdmi k) rest ∧
    decode p ((0xB#4 ++ k : Byte) :: rest) = .instr (.cmpia k) rest ∧
    decode p ((0xD#4 ++ k : Byte) :: rest) = .instr (.ldia k) rest ∧
    decode p ((0xE#4 ++ k : Byte) :: rest) = .instr (.scall k) rest := by
  refine ⟨?_, ?_, ?_, ?_, ?_, ?_⟩ <;> rw [decode, decodeFirst, hi4_append, lo4_append] <;> rfl

/-- Settles O4: each byte is read field by field; that SBR has no other first byte is that its encoding begins with the byte read. -/
theorem oneByteOperandFormats : Obligations.OneByteOperandFormats := fun p rest =>
  ⟨fun k => decode_immediateNibble p k rest, fun b => decode_typedBit p b rest, fun a => decode_sbr p a rest, fun b bs a h => by
    rw [firstByte_of_decode_sbr h, BitVec.extractLsb'_append_eq_left]⟩

/-! After 6Fh, format F2P (30_encoding.md R100). -/

theorem decodePort_outa (b0 : Byte) (q : PortNo) (rest : List Byte) :
    decodePort b0 (0b000#3 ++ q) rest = .instr (.outa q) rest := by
  rw [decodePort, BitVec.extractLsb'_append_eq_left, BitVec.extractLsb'_append_eq_right]
  rfl

/-- Below 20h the byte is OUTA's; from there on its high nibble decides. -/
theorem decodePort_of_twenty_le (b0 : Byte) {b : Byte} (rest : List Byte) (h : 0x20 ≤ b.toNat) :
    decodePort b0 b rest =
      if hi4 b = 0x4#4 then .instr (.ina (lo4 b)) rest
      else if hi4 b = 0xC#4 then .instr (.inm (lo4 b)) rest
      else .reserved .portGroup [b0, b] := by
  have htop : b.extractLsb' 5 3 ≠ 0b000#3 := by
    have hdiv : (b.extractLsb' 5 3).toNat = b.toNat / 32 := by
      rw [BitVec.extractLsb'_toNat, Nat.shiftRight_eq_div_pow]
      omega
    bv_omega
  rw [decodePort]
  split
  · contradiction
  · split <;> simp_all

theorem decodePort_reserved (b0 : Byte) {b : Byte} (rest : List Byte)
    (h : (0x20 ≤ b.toNat ∧ b.toNat ≤ 0x3F) ∨ (0x50 ≤ b.toNat ∧ b.toNat ≤ 0xBF) ∨ 0xD0 ≤ b.toNat) :
    decodePort b0 b rest = .reserved .portGroup [b0, b] := by
  have hhi := hi4_toNat b
  have h4 : hi4 b ≠ 0x4#4 := by bv_omega
  have hC : hi4 b ≠ 0xC#4 := by bv_omega
  rw [decodePort_of_twenty_le b0 rest (by omega), if_neg h4, if_neg hC]

theorem decodePort_ina (b0 : Byte) (q : Nibble) (rest : List Byte) :
    decodePort b0 (0b0100#4 ++ q) rest = .instr (.ina q) rest := by
  have hlow : 0x20 ≤ (0b0100#4 ++ q : Byte).toNat := by revert q; decide
  rw [decodePort_of_twenty_le b0 rest hlow, hi4_append, lo4_append]
  rfl

theorem decodePort_inm (b0 : Byte) (q : Nibble) (rest : List Byte) :
    decodePort b0 (0b1100#4 ++ q) rest = .instr (.inm q) rest := by
  have hlow : 0x20 ≤ (0b1100#4 ++ q : Byte).toNat := by revert q; decide
  rw [decodePort_of_twenty_le b0 rest hlow, hi4_append, lo4_append]
  rfl

/-! After 63h, format F2R (30_encoding.md R101). -/

theorem decodeLatch_fields (b0 : Byte) (r : Latches) (rest : List Byte) :
    decodeLatch b0 (0b00#2 ++ r) rest = .instr (.dicil r) rest ∧
    decodeLatch b0 (0b10#2 ++ r) rest = .instr (.cil r) rest ∧
    decodeLatch b0 (0b11#2 ++ r) rest = .instr (.eicil r) rest ∧
    decodeLatch b0 (0b01#2 ++ r) rest = .reserved .latchGroup [b0, 0b01#2 ++ r] := by
  refine ⟨?_, ?_, ?_, ?_⟩ <;>
    rw [decodeLatch, BitVec.extractLsb'_append_eq_left, BitVec.extractLsb'_append_eq_right] <;> rfl

/-- Settles O5: the second byte after 6Fh and after 63h, read field by field. -/
theorem portAndLatchFormats : Obligations.PortAndLatchFormats := by
  intro p rest
  simp only [decode_6F, decode_63]
  refine ⟨fun q => decodePort_outa _ q rest, fun q => ⟨decodePort_ina _ q rest, decodePort_inm _ q rest⟩,
    fun b h => ⟨.portGroup, decodePort_reserved _ rest h⟩, fun r => ?_⟩
  obtain ⟨hdicil, hcil, heicil, hreserved⟩ := decodeLatch_fields 0x63#8 r rest
  exact ⟨hdicil, hcil, heicil, .latchGroup, hreserved⟩

/-! The formats with a program address (30_encoding.md R102). -/

theorem decode_lbr (p : Params) (a : BitVec 12) (rest : List Byte) :
    decode p ((0b1100#4 ++ a.extractLsb' 8 4 : Byte) :: a.extractLsb' 0 8 :: rest) = .instr (.lbr a) rest := by
  have hjoin : (a.extractLsb' 8 4 ++ a.extractLsb' 0 8 : BitVec 12) = a :=
    (BitVec.extractLsb'_append_extractLsb'_eq_extractLsb' rfl).trans BitVec.extractLsb'_eq_self
  rw [decode, decodeFirst, hi4_append, lo4_append]
  exact congrArg (fun x => Decoded.instr (.lbr x) rest) hjoin

theorem lcallFirst_fields (x : BitVec 3) :
    hi4 (0b01000#5 ++ x : Byte) = 0x4#4 ∧ (lo4 (0b01000#5 ++ x : Byte)).toNat < 8 := by
  revert x; decide

theorem decode_lcall (p : Params) (a : BitVec 11) (rest : List Byte) :
    decode p ((0b01000#5 ++ a.extractLsb' 8 3 : Byte) :: a.extractLsb' 0 8 :: rest) = .instr (.lcall a) rest := by
  have hjoin : (a.extractLsb' 8 3 ++ a.extractLsb' 0 8 : BitVec 11) = a :=
    (BitVec.extractLsb'_append_extractLsb'_eq_extractLsb' rfl).trans BitVec.extractLsb'_eq_self
  obtain ⟨hrow, hhalf⟩ := lcallFirst_fields (a.extractLsb' 8 3)
  rw [decode_row4 p _ hrow, decodeRow4_of_lo4_lt_eight _ rest hhalf, BitVec.extractLsb'_append_eq_right, hjoin]

theorem lcallFirst_range (x : BitVec 3) : 0x40 ≤ (0b01000#5 ++ x : Byte).toNat ∧ (0b01000#5 ++ x : Byte).toNat ≤ 0x47 := by
  revert x; decide

theorem lbrFirst_range (x : Nibble) : 0xC0 ≤ (0b1100#4 ++ x : Byte).toNat ∧ (0b1100#4 ++ x : Byte).toNat ≤ 0xCF := by
  revert x; decide

end Sys2Proof

namespace Sys2Proof.Machine

theorem exec_lcall (a : BitVec 11) (s : State) : exec (.lcall a) s = .next (s.call 2 (a.setWidth 14)) := rfl

theorem exec_lbr (a : BitVec 12) (s : State) : exec (.lbr a) s = branch s 2 (lbrTarget s.params.chip (s.next 2) a) := rfl

@[simp] theorem State.call_pc (s : State) (n : Nat) (target : CodeAddr) : (s.call n target).pc = target := rfl

/-- A taken branch goes to its target. -/
theorem branch_pc_of_taken {s t : State} {n : Nat} {target : CodeAddr} (hsf : s.sf = true) (h : branch s n target = .next t) :
    t.pc = target := by
  cases h
  simp [hsf]

/-- The address is the low twelve bits of the target, in whatever bank. -/
theorem lbrTarget_mod (c : Chip) (next : CodeAddr) (a : BitVec 12) : (lbrTarget c next a).toNat % 4096 = a.toNat := by
  have hlow : (lbrTarget c next a).extractLsb' 0 12 = a := by
    cases c with
    | rom8K => exact BitVec.extractLsb'_append_eq_right
    | rom2K | rom4K =>
      show (a.setWidth 14).extractLsb' 0 12 = a
      rw [← BitVec.setWidth_eq_extractLsb' (by decide), BitVec.setWidth_setWidth_of_le a (by decide), BitVec.setWidth_eq]
  calc (lbrTarget c next a).toNat % 4096
      = ((lbrTarget c next a).extractLsb' 0 12).toNat := (BitVec.extractLsb'_toNat 0 12 _).symm
    _ = a.toNat := by rw [hlow]

/-- Settles O6: the two formats are read field by field, the first bytes are those of the encoding, and the address of a call or a taken
branch is the low part of the new PC. -/
theorem programAddressFormats : Obligations.ProgramAddressFormats := fun p rest =>
  ⟨fun a => decode_lcall p a rest, fun a => decode_lbr p a rest,
    fun b bs a h => firstByte_of_decode_lcall h ▸ lcallFirst_range _,
    fun b bs a h => firstByte_of_decode_lbr h ▸ lbrFirst_range _,
    fun s t a h => by
      rw [exec_lcall] at h
      cases h
      rw [State.call_pc, BitVec.toNat_setWidth]
      omega,
    fun s t a hsf h => by
      rw [exec_lbr] at h
      rw [branch_pc_of_taken hsf h, lbrTarget_mod]⟩

end Sys2Proof.Machine
end

section
/-! SUPPORT AND PROOF. The two directions of the encoding, for every instruction: what is encoded decodes to itself (`decode_encode`), and
what is decoded is well-formed and encodes to the bytes read (`decode_reads`). Both go format by format (30_encoding.md R92 to R104). -/

namespace Sys2Proof

/-! ### From the instruction to the bytes and back -/

/-- Format F2B (30_encoding.md R99): type, bit number and low nibble are read back from the byte put together from them. -/
theorem fields_typedBitByte (t b : BitVec 2) (y : Nibble) :
    (t ++ b ++ y : Byte).extractLsb' 6 2 = t ∧ (t ++ b ++ y : Byte).extractLsb' 4 2 = b ∧ lo4 (t ++ b ++ y : Byte) = y := by
  revert t b y; decide

theorem decodeBit_fields (b0 : Byte) (b : BitNo) (y : Nibble) (rest : List Byte) :
    decodeBit b0 (0b01#2 ++ b ++ y) rest = .instr (.set y b) rest ∧
    decodeBit b0 (0b10#2 ++ b ++ y) rest = .instr (.tt y b) rest ∧
    decodeBit b0 (0b11#2 ++ b ++ y) rest = .instr (.clr y b) rest := by
  refine ⟨?_, ?_, ?_⟩ <;> simp only [decodeBit, fields_typedBitByte]

theorem decodePortBit_fields (b0 : Byte) (b : BitNo) (n : Nibble) (rest : List Byte) :
    decodePortBit b0 (0b00#2 ++ b ++ n) rest = .instr (.tfp n b) rest ∧
    decodePortBit b0 (0b10#2 ++ b ++ n) rest = .instr (.ttp n b) rest ∧
    decodePortBit b0 (0b11#2 ++ b ++ n) rest = .instr (.clp n b) rest := by
  refine ⟨?_, ?_, ?_⟩
  · simp only [decodePortBit, fields_typedBitByte]
  · simp only [decodePortBit, fields_typedBitByte]
  · simp only [decodePortBit, fields_typedBitByte]
    rfl

/-- SEP's type with port 0 is reserved (30_encoding.md R108, decision D25). -/
theorem decodePortBit_sep (b0 : Byte) (b : BitNo) (n : Nibble) (rest : List Byte) :
    decodePortBit b0 (0b01#2 ++ b ++ n) rest =
      if n = 0#4 then .reserved .sepPortZero [b0, 0b01#2 ++ b ++ n] else .instr (.sep n b) rest := by
  simp only [decodePortBit, fields_typedBitByte]

/-- A lawful EXAE_OPCODE is 75h or 7Ah, so the byte is looked up and read as EXAE (30_encoding.md R114). -/
theorem decode_exaeOpcode {p : Params} {c : Byte} (rest : List Byte) (hp : p.wf = true) (hc : p.exaeOpcode = some c) :
    decode p (c :: rest) = .instr .exae rest := by
  have hread : decodeExae p c rest = .instr .exae rest := if_pos hc
  have hok : c = 0x75#8 ∨ c = 0x7A#8 := by simp_all [Params.wf, Params.exaeOk, exaeCandidates]
  rcases hok with rfl | rfl <;> exact hread

/-- A lawful SLBR_PREFIX takes 55h and 57h, a different one for each bank, so the bank is read back from the first byte
(30_encoding.md R103). -/
theorem slbrBank_slbrFirst {p : Params} (bank : BitVec 1) (hp : p.wf = true) (hchip : p.chip.hasSlbr = true)
    (hpre : p.slbrPrefix.isSome = true) :
    slbrBank p (slbrFirst p bank) = some bank ∧ (slbrFirst p bank = 0x55#8 ∨ slbrFirst p bank = 0x57#8) := by
  obtain ⟨⟨c0, c1⟩, hc⟩ := Option.isSome_iff_exists.1 hpre
  have hok : (c0 ≠ c1 ∧ (c0 = 0x55#8 ∨ c0 = 0x57#8)) ∧ (c1 = 0x55#8 ∨ c1 = 0x57#8) := by
    simp_all [Params.wf, Params.slbrOk, slbrCandidates]
  obtain ⟨⟨hne, h0⟩, h1⟩ := hok
  have hbank : bank = 0#1 ∨ bank = 1#1 := by revert bank; decide
  simp only [slbrBank, slbrFirst, hchip, hc]
  rcases hbank with rfl | rfl
  · simp [h0]
  · simp [h1, hne.symm]

theorem Chip.hasGf_of_hasSlbr {c : Chip} (h : c.hasSlbr = true) : c.hasGf = false := by
  cases c <;> first | rfl | cases h

/-- Format F3 (30_encoding.md R103). -/
theorem decode_slbr {p : Params} (a : BitVec 13) (rest : List Byte) (hp : p.wf = true) (hchip : p.chip.hasSlbr = true)
    (hpre : p.slbrPrefix.isSome = true) : decode p (encode p (.slbr a) ++ rest) = .instr (.slbr a) rest := by
  obtain ⟨hbank, hbyte⟩ := slbrBank_slbrFirst (a.extractLsb' 12 1) hp hchip hpre
  have hjoin : (a.extractLsb' 12 1 ++ a.extractLsb' 8 4 ++ a.extractLsb' 0 8 : BitVec 13) = a := by
    rw [BitVec.extractLsb'_append_extractLsb'_eq_extractLsb' (by decide),
      BitVec.extractLsb'_append_extractLsb'_eq_extractLsb' (by decide)]
    exact BitVec.extractLsb'_eq_self
  have hread : ∀ i b, slbrBank p b = some (a.extractLsb' 12 1) →
      decodeGfOrSlbr p i b ((0xC#4 ++ a.extractLsb' 8 4) :: a.extractLsb' 0 8 :: rest) = .instr (.slbr a) rest := by
    intro i b hb
    simp only [decodeGfOrSlbr, Chip.hasGf_of_hasSlbr hchip, hb, decodeSlbr, withByte, hi4_append, lo4_append, hjoin, if_true,
      Bool.false_eq_true, if_false]
  show decode p (slbrFirst p (a.extractLsb' 12 1) :: _) = _
  rcases hbyte with h | h <;> rw [h] at hbank ⊢ <;> exact hread _ _ hbank

/-- The general-flag instructions and their bytes, where the chip has them (30_encoding.md R109). -/
theorem decode_generalFlag {p : Params} (rest : List Byte) (h : p.chip.hasGf = true) :
    decode p (0x57#8 :: rest) = .instr .cgf rest ∧ decode p (0x55#8 :: rest) = .instr .sgf rest ∧
      decode p (0x54#8 :: rest) = .instr .tgs rest :=
  ⟨if_pos h, if_pos h, if_pos h⟩

/-- Decoding undoes encoding. -/
theorem decode_encode {p : Params} {i : Instr} (rest : List Byte) (hp : p.wf = true) (hi : i.wf p = true) :
    decode p (encode p i ++ rest) = .instr i rest := by
  cases i
  case exae =>
    obtain ⟨c, hc⟩ := Option.isSome_iff_exists.1 hi
    rw [encode, hc]
    exact decode_exaeOpcode rest hp hc
  case slbr a =>
    obtain ⟨hchip, hpre⟩ := Bool.and_eq_true_iff.1 hi
    exact decode_slbr a rest hp hchip hpre
  case cgf | sgf | tgs =>
    obtain ⟨hcgf, hsgf, htgs⟩ := decode_generalFlag rest hi
    assumption
  case lbr a => exact decode_lbr p a rest
  case lcall a => exact decode_lcall p a rest
  case sbr a => exact decode_sbr p a rest
  case clm b | sem b | tfa b | tfm b =>
    obtain ⟨hclm, hsem, htfa, htfm⟩ := decode_typedBit p b rest
    assumption
  case ldl k | ldh k | stdmi k | cmpia k | ldia k | scall k =>
    obtain ⟨hldl, hldh, hstdmi, hcmpia, hldia, hscall⟩ := decode_immediateNibble p k rest
    assumption
  case dicil r | cil r | eicil r =>
    obtain ⟨hdicil, hcil, heicil, -⟩ := decodeLatch_fields 0x63#8 r rest
    assumption
  case set y b | tt y b | clr y b =>
    obtain ⟨hset, htt, hclr⟩ := decodeBit_fields 0x6C#8 b y rest
    assumption
  case sep n b => exact (decodePortBit_sep 0x6D#8 b n rest).trans (if_neg (bne_iff_ne.1 hi))
  case tfp n b | ttp n b | clp n b =>
    obtain ⟨htfp, http, hclp⟩ := decodePortBit_fields 0x6D#8 b n rest
    assumption
  case outa q => exact decodePort_outa _ q rest
  case ina q => exact decodePort_ina _ q rest
  case inm q => exact decodePort_inm _ q rest
  case exhl x | ldhl x => exact if_pos hi
  case lda x =>
    show decode p (0x6A#8 :: x :: rest) = _
    rw [decode_6A, decodeLoad_of_not_window (by simpa [Instr.wf] using hi)]
  case sta x =>
    show decode p (0x69#8 :: x :: rest) = _
    rw [decode_69, decodeStore_of_not_window (by simpa [Instr.wf] using hi)]
  case addl k | cmpl k | ora k | adda k | anda k | suba k | addah k | cmph k | orm k | addm k | andm k | subm k =>
    show decodeImmediate 0x6E#8 (_ ++ k) rest = _
    rw [decodeImmediate, hi4_append, lo4_append]
    rfl
  case std k y =>
    show decode p (0x48#8 :: (k ++ y) :: rest) = _
    rw [decode_48, hi4_append, lo4_append]
  case add k y =>
    show decode p (0x49#8 :: (k ++ y) :: rest) = _
    rw [decode_49, hi4_append, lo4_append]
  case out k n =>
    show decode p (0x4A#8 :: (k ++ n) :: rest) = _
    rw [decode_4A, hi4_append, lo4_append]
  case cmp k y =>
    show decode p (0x4B#8 :: (k ++ y) :: rest) = _
    rw [decode_4B, hi4_append, lo4_append]
  all_goals rfl

/-- Settles O1: each format's fields are read back from the bytes put together from them. -/
theorem decodeEncodeRoundTrip : Obligations.DecodeEncodeRoundTrip := fun _ _ rest hp hi => decode_encode rest hp hi

/-! ### From the bytes to the instruction and back -/

/-- What was read from `bs`, if it is an instruction, is well-formed and encodes to the bytes read. -/
def Decoded.reads (p : Params) (bs : List Byte) : Decoded → Prop
  | .instr i rest => i.wf p = true ∧ encode p i ++ rest = bs
  | _ => True

theorem withByte_reads {p : Params} {b : Byte} (rest : List Byte) {k : Byte → List Byte → Decoded}
    (h : ∀ c rest', (k c rest').reads p (b :: c :: rest')) : (withByte rest k).reads p (b :: rest) := by
  cases rest with
  | nil => trivial
  | cons c rest' => exact h c rest'

/-- A byte is its two nibbles. -/
theorem exists_nibbles (b : Byte) : ∃ h l : Nibble, b = h ++ l := ⟨hi4 b, lo4 b, (hi4_append_lo4 b).symm⟩

/-- A byte is its fields of format F2B. -/
theorem exists_typedBit (c : Byte) : ∃ (t b : BitVec 2) (y : Nibble), c = t ++ b ++ y :=
  ⟨c.extractLsb' 6 2, c.extractLsb' 4 2, lo4 c, by revert c; decide⟩

/-- A byte is its fields of format F2R. -/
theorem exists_typedLatches (c : Byte) : ∃ (t : BitVec 2) (r : Latches), c = t ++ r :=
  ⟨c.extractLsb' 6 2, c.extractLsb' 0 6, by revert c; decide⟩

theorem decodeSlbr_reads {p : Params} {b : Byte} {bank : BitVec 1} (hchip : p.chip.hasSlbr = true) (h : slbrBank p b = some bank)
    (rest : List Byte) : (decodeSlbr bank b rest).reads p (b :: rest) := by
  refine withByte_reads rest fun c rest' => ?_
  obtain ⟨hi, lo, rfl⟩ := exists_nibbles c
  rw [hi4_append, lo4_append]
  split
  · next hC =>
    subst hC
    cases rest' with
    | nil => trivial
    | cons d rest'' =>
      have hpre : p.slbrPrefix.isSome = true := by
        cases hp : p.slbrPrefix with
        | none => simp [slbrBank, hp] at h
        | some c => rfl
      have hbank : (bank ++ lo ++ d : BitVec 13).extractLsb' 12 1 = bank := by
        rw [BitVec.extractLsb'_append_eq_of_le (by decide)]
        exact BitVec.extractLsb'_append_eq_left
      have hlo : (bank ++ lo ++ d : BitVec 13).extractLsb' 8 4 = lo := by
        rw [BitVec.extractLsb'_append_eq_of_le (by decide)]
        exact BitVec.extractLsb'_append_eq_right
      refine ⟨Bool.and_eq_true_iff.2 ⟨hchip, hpre⟩, ?_⟩
      simp only [encode, hbank, slbrFirst_of_slbrBank h, hlo, BitVec.extractLsb'_append_eq_right, List.cons_append, List.nil_append]
  · trivial

theorem decodeExae_reads (p : Params) (b : Byte) (rest : List Byte) : (decodeExae p b rest).reads p (b :: rest) := by
  unfold decodeExae
  split
  · next h => simp only [Decoded.reads, Instr.wf, encode, h]; exact ⟨rfl, rfl⟩
  · trivial

theorem decodeTgs_reads (p : Params) (rest : List Byte) : (decodeTgs p 0x54#8 rest).reads p (0x54#8 :: rest) := by
  unfold decodeTgs
  split
  · next h => exact ⟨h, rfl⟩
  · trivial

theorem decodeGfOrSlbr_reads {p : Params} {i : Instr} {b : Byte} (hi : p.chip.hasGf = true → i.wf p = true) (he : encode p i = [b])
    (rest : List Byte) : (decodeGfOrSlbr p i b rest).reads p (b :: rest) := by
  unfold decodeGfOrSlbr
  split
  · next h => exact ⟨hi h, by rw [he]; rfl⟩
  · next h =>
    split
    · next bank hbank =>
      have hchip : p.chip.hasSlbr = true := by
        cases hc : p.chip <;> simp_all [Chip.hasGf, Chip.hasSlbr]
      exact decodeSlbr_reads hchip hbank rest
    · trivial

theorem decodePair_reads {p : Params} {mk : DataAddr → Instr} {b : Byte} (hi : ∀ x, pairAligned x = true → (mk x).wf p = true)
    (he : ∀ x, encode p (mk x) = [b, x]) (rest : List Byte) : (decodePair mk b rest).reads p (b :: rest) := by
  refine withByte_reads rest fun x rest' => ?_
  split
  · next h => exact ⟨hi x h, by rw [he]; rfl⟩
  · trivial

theorem decodeStore_reads (p : Params) (x : DataAddr) : (decodeStore x).wf p = true ∧ encode p (decodeStore x) = [0x69#8, x] := by
  unfold decodeStore
  split
  case h_11 => simp_all [Instr.wf, encode, isWindowAddr, windowAddrs]
  all_goals exact ⟨rfl, rfl⟩

theorem decodeLoad_reads (p : Params) (x : DataAddr) : (decodeLoad x).wf p = true ∧ encode p (decodeLoad x) = [0x6A#8, x] := by
  unfold decodeLoad
  split
  case h_11 => simp_all [Instr.wf, encode, isWindowAddr, windowAddrs]
  all_goals exact ⟨rfl, rfl⟩

theorem decodeLatch_reads (p : Params) (c : Byte) (rest : List Byte) :
    (decodeLatch 0x63#8 c rest).reads p (0x63#8 :: c :: rest) := by
  obtain ⟨t, r, rfl⟩ := exists_typedLatches c
  simp only [decodeLatch, BitVec.extractLsb'_append_eq_left, BitVec.extractLsb'_append_eq_right]
  split
  case h_4 => trivial
  all_goals exact ⟨rfl, rfl⟩

theorem decodeBit_reads (p : Params) (c : Byte) (rest : List Byte) : (decodeBit 0x6C#8 c rest).reads p (0x6C#8 :: c :: rest) := by
  obtain ⟨t, b, y, rfl⟩ := exists_typedBit c
  simp only [decodeBit, fields_typedBitByte]
  split
  case h_4 => trivial
  all_goals exact ⟨rfl, rfl⟩

theorem decodePortBit_reads (p : Params) (c : Byte) (rest : List Byte) :
    (decodePortBit 0x6D#8 c rest).reads p (0x6D#8 :: c :: rest) := by
  obtain ⟨t, b, n, rfl⟩ := exists_typedBit c
  simp only [decodePortBit, fields_typedBitByte]
  split
  case h_2 =>
    split
    · trivial
    · next hn => exact ⟨bne_iff_ne.2 hn, rfl⟩
  case h_4 =>
    obtain rfl : t = 0b11#2 := by simp only [imp_false] at *; bv_omega
    exact ⟨rfl, rfl⟩
  all_goals exact ⟨rfl, rfl⟩

theorem decodeImmediate_reads (p : Params) (c : Byte) (rest : List Byte) :
    (decodeImmediate 0x6E#8 c rest).reads p (0x6E#8 :: c :: rest) := by
  obtain ⟨h, k, rfl⟩ := exists_nibbles c
  rw [decodeImmediate, hi4_append, lo4_append]
  split
  case h_13 => trivial
  all_goals exact ⟨rfl, rfl⟩

theorem decodePort_reads (p : Params) (c : Byte) (rest : List Byte) :
    (decodePort 0x6F#8 c rest).reads p (0x6F#8 :: c :: rest) := by
  unfold decodePort
  split
  · next h =>
    have hc : (0#3 ++ c.extractLsb' 0 5 : Byte) = c := by rw [← h]; revert c; decide
    exact ⟨rfl, by rw [encode, hc]; rfl⟩
  · obtain ⟨h, l, rfl⟩ := exists_nibbles c
    rw [hi4_append, lo4_append]
    split
    case h_3 => trivial
    all_goals exact ⟨rfl, rfl⟩

theorem decodeRow4_reads (p : Params) (l : Nibble) (rest : List Byte) :
    (decodeRow4 (0x4#4 ++ l) rest).reads p ((0x4#4 ++ l) :: rest) := by
  rw [decodeRow4, lo4_append]
  split
  case h_1 | h_2 | h_3 | h_4 =>
    refine withByte_reads rest fun c rest' => ?_
    obtain ⟨h, l, rfl⟩ := exists_nibbles c
    rw [hi4_append, lo4_append]
    exact ⟨rfl, rfl⟩
  case h_5 => exact decodePair_reads (mk := .exhl) (fun _ h => h) (fun _ => rfl) rest
  case h_7 => exact decodePair_reads (mk := .ldhl) (fun _ h => h) (fun _ => rfl) rest
  case h_9 =>
    refine withByte_reads rest fun c rest' => ⟨rfl, ?_⟩
    have hl : l.toNat < 8 := by simp only [imp_false] at *; bv_omega
    rw [encode, BitVec.extractLsb'_append_eq_left, BitVec.extractLsb'_append_eq_right, lcallFirst_of_nibble l hl]
    rfl
  all_goals exact ⟨rfl, rfl⟩

theorem decodeRow5_reads (p : Params) (l : Nibble) (rest : List Byte) :
    (decodeRow5 p (0x5#4 ++ l) rest).reads p ((0x5#4 ++ l) :: rest) := by
  rw [decodeRow5, lo4_append]
  split
  case h_5 => exact decodeTgs_reads p rest
  case h_6 | h_8 => exact decodeGfOrSlbr_reads id rfl rest
  case h_16 =>
    obtain rfl : l = 0xF#4 := by simp only [imp_false] at *; bv_omega
    exact ⟨rfl, rfl⟩
  all_goals exact ⟨rfl, rfl⟩

theorem decodeRow6_reads (p : Params) (l : Nibble) (rest : List Byte) :
    (decodeRow6 (0x6#4 ++ l) rest).reads p ((0x6#4 ++ l) :: rest) := by
  rw [decodeRow6, lo4_append]
  split
  case h_4 => exact withByte_reads rest (decodeLatch_reads p)
  case h_9 | h_12 => exact withByte_reads rest fun _ _ => ⟨rfl, rfl⟩
  case h_10 =>
    refine withByte_reads rest fun x rest' => ⟨(decodeStore_reads p x).1, ?_⟩
    rw [(decodeStore_reads p x).2]; rfl
  case h_11 =>
    refine withByte_reads rest fun x rest' => ⟨(decodeLoad_reads p x).1, ?_⟩
    rw [(decodeLoad_reads p x).2]; rfl
  case h_13 => exact withByte_reads rest (decodeBit_reads p)
  case h_14 => exact withByte_reads rest (decodePortBit_reads p)
  case h_15 => exact withByte_reads rest (decodeImmediate_reads p)
  case h_16 =>
    obtain rfl : l = 0xF#4 := by simp only [imp_false] at *; bv_omega
    exact withByte_reads rest (decodePort_reads p)
  all_goals exact ⟨rfl, rfl⟩

theorem decodeRow7_reads (p : Params) (l : Nibble) (rest : List Byte) :
    (decodeRow7 p (0x7#4 ++ l) rest).reads p ((0x7#4 ++ l) :: rest) := by
  rw [decodeRow7, lo4_append]
  split
  case h_6 | h_11 => exact decodeExae_reads p _ rest
  case h_16 =>
    obtain rfl : l = 0xF#4 := by simp only [imp_false] at *; bv_omega
    exact ⟨rfl, rfl⟩
  all_goals exact ⟨rfl, rfl⟩

theorem decodeRowF_reads (p : Params) (l : Nibble) (rest : List Byte) :
    (decodeRowF (0xF#4 ++ l) rest).reads p ((0xF#4 ++ l) :: rest) := by
  have hhead := decodeRowF_beginsWith p l rest
  unfold decodeRowF at hhead ⊢
  split
  all_goals
    next hl =>
      simp only [hl, Decoded.beginsWith, encode, List.head?_cons, Option.some.injEq] at hhead
      exact ⟨rfl, by rw [encode, hhead]; rfl⟩

/-- What is read is well-formed, and its encoding is the bytes read: row by row of the opcode map (30_encoding.md R106). -/
theorem decode_reads (p : Params) (bs : List Byte) : (decode p bs).reads p bs := by
  cases bs with
  | nil => trivial
  | cons b rest =>
    obtain ⟨h, l, rfl⟩ := exists_nibbles b
    rw [decode, decodeFirst, hi4_append, lo4_append]
    split
    case h_1 => exact decodeRow4_reads p l rest
    case h_2 => exact decodeRow5_reads p l rest
    case h_3 => exact decodeRow6_reads p l rest
    case h_4 => exact decodeRow7_reads p l rest
    case h_9 =>
      refine withByte_reads rest fun c rest' => ⟨rfl, ?_⟩
      rw [encode, BitVec.extractLsb'_append_eq_left, BitVec.extractLsb'_append_eq_right]
      rfl
    case h_12 => exact decodeRowF_reads p l rest
    case h_13 =>
      have hh : h.toNat < 4 := by simp only [imp_false] at *; bv_omega
      exact ⟨rfl, by rw [encode, sbrFirst_of_nibbles h l hh]; rfl⟩
    all_goals exact ⟨rfl, rfl⟩

/-- Settles O2: `decode_reads`, for the reading at hand. -/
theorem decodedBytesAreTheEncoding : Obligations.DecodedBytesAreTheEncoding := by
  intro p bs i rest h
  have hreads := decode_reads p bs
  rwa [h] at hreads

/-! ### The length -/

/-- What was read, if it is an instruction, has this length. -/
def Decoded.hasLength (n : Nat) : Decoded → Prop
  | .instr i _ => i.length = n
  | _ => True

theorem withByte_hasLength {n : Nat} {k : Byte → List Byte → Decoded} (h : ∀ c rest', (k c rest').hasLength n) (rest : List Byte) :
    (withByte rest k).hasLength n := by
  cases rest with
  | nil => trivial
  | cons c rest' => exact h c rest'

theorem decodeSlbr_hasLength (bank : BitVec 1) (b : Byte) (rest : List Byte) : (decodeSlbr bank b rest).hasLength 3 := by
  refine withByte_hasLength (fun c rest' => ?_) rest
  split
  · refine withByte_hasLength (fun _ _ => ?_) rest'
    rfl
  · trivial

theorem decodePair_hasLength {mk : DataAddr → Instr} (h : ∀ x, (mk x).length = 2) (b : Byte) (rest : List Byte) :
    (decodePair mk b rest).hasLength 2 := by
  refine withByte_hasLength (fun x rest' => ?_) rest
  split
  · exact h x
  · trivial

/-- After a first byte that makes a two-byte instruction, the second byte has no say in the length. -/
theorem decodeSecond_hasLength (b c : Byte) (rest : List Byte) :
    (decodeLatch b c rest).hasLength 2 ∧ (decodeBit b c rest).hasLength 2 ∧ (decodePortBit b c rest).hasLength 2 ∧
      (decodeImmediate b c rest).hasLength 2 ∧ (decodePort b c rest).hasLength 2 := by
  refine ⟨?_, ?_, ?_, ?_, ?_⟩
  · unfold decodeLatch; dsimp only; split <;> trivial
  · unfold decodeBit; dsimp only; split <;> trivial
  · unfold decodePortBit; dsimp only
    split
    case h_2 => split <;> trivial
    all_goals rfl
  · unfold decodeImmediate; dsimp only; split <;> trivial
  · unfold decodePort
    split
    · rfl
    · split <;> trivial

/-- In row 5, one byte or, for SLBR, three: that lies with the chip and SLBR_PREFIX. -/
theorem decodeGfOrSlbr_hasLength (p : Params) {i : Instr} (hi : i.length = 1) (b : Byte) :
    ∃ n, ∀ rest, (decodeGfOrSlbr p i b rest).hasLength n := by
  unfold decodeGfOrSlbr
  split
  · exact ⟨1, fun _ => hi⟩
  · split
    · exact ⟨3, decodeSlbr_hasLength _ b⟩
    · exact ⟨0, fun _ => trivial⟩

theorem decodeRow4_hasLength (b : Byte) : ∃ n, ∀ rest, (decodeRow4 b rest).hasLength n := by
  unfold decodeRow4
  split
  case h_5 => exact ⟨2, decodePair_hasLength (mk := .exhl) (fun _ => rfl) b⟩
  case h_7 => exact ⟨2, decodePair_hasLength (mk := .ldhl) (fun _ => rfl) b⟩
  case h_6 | h_8 => exact ⟨1, fun _ => rfl⟩
  all_goals
    refine ⟨2, withByte_hasLength fun _ _ => ?_⟩
    rfl

theorem decodeRow5_hasLength (p : Params) (b : Byte) : ∃ n, ∀ rest, (decodeRow5 p b rest).hasLength n := by
  unfold decodeRow5
  split
  case h_5 =>
    unfold decodeTgs
    split
    · exact ⟨1, fun _ => rfl⟩
    · exact ⟨0, fun _ => trivial⟩
  case h_6 | h_8 => exact decodeGfOrSlbr_hasLength p rfl b
  all_goals exact ⟨1, fun _ => rfl⟩

theorem decodeRow6_hasLength (b : Byte) : ∃ n, ∀ rest, (decodeRow6 b rest).hasLength n := by
  unfold decodeRow6
  split
  case h_4 | h_13 | h_14 | h_15 | h_16 =>
    refine ⟨2, withByte_hasLength fun c rest => ?_⟩
    obtain ⟨hlatch, hbit, hportBit, himm, hport⟩ := decodeSecond_hasLength b c rest
    assumption
  case h_10 => exact ⟨2, withByte_hasLength fun x _ => decodeStore_length x⟩
  case h_11 => exact ⟨2, withByte_hasLength fun x _ => decodeLoad_length x⟩
  case h_9 => exact ⟨2, withByte_hasLength (k := fun x => .instr (.exa x)) fun _ _ => rfl⟩
  case h_12 => exact ⟨2, withByte_hasLength (k := fun x => .instr (.cmpa x)) fun _ _ => rfl⟩
  all_goals exact ⟨1, fun _ => rfl⟩

theorem decodeRow7_hasLength (p : Params) (b : Byte) : ∃ n, ∀ rest, (decodeRow7 p b rest).hasLength n := by
  unfold decodeRow7
  split
  case h_6 | h_11 =>
    unfold decodeExae
    split
    · exact ⟨1, fun _ => rfl⟩
    · exact ⟨0, fun _ => trivial⟩
  all_goals exact ⟨1, fun _ => rfl⟩

theorem decodeRowF_hasLength (b : Byte) : ∃ n, ∀ rest, (decodeRowF b rest).hasLength n := by
  unfold decodeRowF
  dsimp only
  split <;> exact ⟨1, fun _ => rfl⟩

/-- "The length is decided by the first byte alone" (30_encoding.md R90). -/
theorem decode_hasLength (p : Params) (b : Byte) : ∃ n, ∀ bs, (decode p (b :: bs)).hasLength n := by
  simp only [decode, decodeFirst]
  split
  case h_1 => exact decodeRow4_hasLength b
  case h_2 => exact decodeRow5_hasLength p b
  case h_3 => exact decodeRow6_hasLength b
  case h_4 => exact decodeRow7_hasLength p b
  case h_9 => exact ⟨2, withByte_hasLength fun _ _ => rfl⟩
  case h_12 => exact decodeRowF_hasLength b
  all_goals exact ⟨1, fun _ => rfl⟩

/-- Settles O3: both instructions have the length of the first byte, and `decode_length` adds the bytes up. -/
theorem firstByteDecidesLength : Obligations.FirstByteDecidesLength := by
  intro p b bs bs' rest rest' i j hi hj
  obtain ⟨n, hn⟩ := decode_hasLength p b
  have hilen : i.length = n := by simpa [hi, Decoded.hasLength] using hn bs
  have hjlen : j.length = n := by simpa [hj, Decoded.hasLength] using hn bs'
  exact ⟨hilen.trans hjlen.symm, (decode_length hi).symm⟩

/-- Settles O7: the seven words are the encodings of their instructions, so `decode_encode` reads them back. -/
theorem sampleWordsDecode : Obligations.SampleWordsDecode :=
  have hp : Params.default.wf = true := by decide
  have h8K : { Params.default with chip := .rom8K }.wf = true := by decide
  ⟨decode_encode (i := .add 3#4 5#4) [] hp rfl, decode_encode (i := .clr 2#4 3#2) [] hp rfl, decode_encode (i := .ldadpl) [] hp rfl,
    decode_encode (i := .lcall 0x210#11) [] hp rfl, decode_encode (i := .andm 3#4) [] hp rfl, decode_encode (i := .rti) [] hp rfl,
    decode_encode (i := .slbr 0x1234#13) [] h8K rfl⟩

end Sys2Proof
end

section
/-! SUPPORT. One rule per operation of the state, for what holds of every next state an instruction answers: the proofs about instructions
go through these rules and do not look inside the operations. -/

namespace Sys2Proof.Machine

/-- The result is no refusal, and the next state, if it answers one, has the property. -/
def Ensures (P : State → Prop) : Result → Prop
  | .next t => P t
  | .fault _ => True
  | .refused _ => False

theorem Ensures.of_next {P : State → Prop} {r : Result} {t : State} (h : Ensures P r) (hr : r = .next t) : P t := by
  rwa [hr] at h

theorem Ensures.ne_refused {P : State → Prop} {r : Result} (h : Ensures P r) (e : Refusal) : r ≠ .refused e := by
  rintro rfl
  exact h

theorem ensures_of_forall {P Q : State → Prop} {r : Result} (h : Ensures P r) (hq : ∀ t, r = .next t → Q t) : Ensures Q r := by
  cases r with
  | next t => exact hq t rfl
  | fault f => trivial
  | refused e => exact h

theorem ensures_next {P : State → Prop} {u : State} (h : P u) : Ensures P (.next u) := h

theorem ensures_fault {P : State → Prop} (f : Fault) : Ensures P (.fault f) := trivial

theorem ensures_ite {P : State → Prop} {c : Prop} [Decidable c] {r r' : Result} (h : c → Ensures P r) (h' : ¬c → Ensures P r') :
    Ensures P (if c then r else r') := by
  split
  · exact h ‹c›
  · exact h' ‹¬c›

theorem ensures_orFault {P : State → Prop} {α : Type} {r : Except Fault α} {k : α → Result} (h : ∀ a, r = .ok a → Ensures P (k a)) :
    Ensures P (orFault r k) := by
  cases r with
  | ok a => exact h a rfl
  | error f => trivial

theorem ensures_memRead {P : State → Prop} {s : State} {a : DataAddr} {k : Nibble → Result}
    (h : ∀ m, s.cellHolds a m → Ensures P (k m)) : Ensures P (orFault (s.memRead a) k) :=
  ensures_orFault fun m hm => h m (State.memRead_ok_iff.1 hm)

theorem ensures_memWrite {P : State → Prop} {s : State} {a : DataAddr} {v : Nibble} {k : State → Result}
    (h : s.validData a = true → Ensures P (k { s with ram := s.ram.write a.toNat v })) : Ensures P (orFault (s.memWrite a v) k) := by
  refine ensures_orFault fun t ht => ?_
  obtain ⟨ha, rfl⟩ := State.memWrite_ok_iff.1 ht
  exact h ha

theorem ensures_portRead {P : State → Prop} {s : State} {p : PortNo} {k : Nibble × State → Result}
    (h : Ensures P (k (s.portInput p, { s with
      portReads := s.portReads + 1, events := s.events ++ [.read p (s.portInput p)] }))) :
    Ensures P (orFault (s.portRead p) k) := by
  refine ensures_orFault fun r hr => ?_
  obtain ⟨-, rfl⟩ := State.portRead_ok_iff.1 hr
  exact h

theorem ensures_portWrite {P : State → Prop} {s : State} {p : PortNo} {v : Nibble} {k : State → Result}
    (h : Ensures P (k { s with portOut := s.portOut.set p.toNat v, events := s.events ++ [.write p v] })) :
    Ensures P (orFault (s.portWrite p v) k) := by
  refine ensures_orFault fun t ht => ?_
  obtain ⟨-, rfl⟩ := State.portWrite_ok_iff.1 ht
  exact h

theorem ensures_portWrite2 {P : State → Prop} {s : State} {p1 p2 : PortNo} {v1 v2 : Nibble} {k : State → Result}
    (h : Ensures P (k { s with
      portOut := (s.portOut.set p1.toNat v1).set p2.toNat v2, events := s.events ++ [.write2 p1 v1 p2 v2] })) :
    Ensures P (orFault (s.portWrite2 p1 v1 p2 v2) k) := by
  refine ensures_orFault fun t ht => ?_
  obtain ⟨-, -, rfl⟩ := State.portWrite2_ok_iff.1 ht
  exact h

theorem ensures_returnFromInterrupt {P : State → Prop} {s : State} {k : State → Result}
    (h : ∀ pc fl, s.stack.read s.popIndex.toNat = some ⟨pc, some fl⟩ →
      Ensures P (k { s with sp := s.popIndex, eif := true, cf := fl.c, zf := fl.z, sf := fl.s, pc := pc })) :
    Ensures P (orFault s.returnFromInterrupt k) := by
  refine ensures_orFault fun t ht => ?_
  obtain ⟨pc, fl, he, rfl⟩ := State.returnFromInterrupt_ok_iff.1 ht
  simpa only [State.setSp, State.setEif, State.setCf, State.setZf, State.setSf, State.setPc] using h pc fl he

end Sys2Proof.Machine
end

section
/-! SUPPORT AND PROOF. Who writes what (10_state.md R20 to R37): one equation, `exec_framed`, says of every instruction which fields of the
state it can write, whether SF is kept or set, and where PC goes unless it jumps. -/

namespace Sys2Proof.Machine

/-- The part of a special register the instruction stores to (10_state.md R41). -/
def storesTo : Instr → Option Special
  | .stadpl => some .dpL
  | .stadpm => some .dpM
  | .stadph => some .dpH
  | .stasp => some .sp
  | .statal => some .taL
  | .statam => some .taM
  | .statah => some .taH
  | .statbl => some .tbL
  | .statbm => some .tbM
  | .statbh => some .tbH
  | .sta x => specialAt x
  | _ => none

/-- A part of DP. -/
def Special.inDp : Special → Bool
  | .dpL | .dpM | .dpH => true
  | _ => false

/-- A part of TA. -/
def Special.inTa : Special → Bool
  | .taL | .taM | .taH => true
  | _ => false

/-- A part of TB. -/
def Special.inTb : Special → Bool
  | .tbL | .tbM | .tbH => true
  | _ => false

/-- SP, the one special register of a single part. -/
def Special.isSp : Special → Bool
  | .sp => true
  | _ => false

/-- The instructions that write GF (10_state.md R28). -/
def writesGf : Instr → Bool
  | .cgf | .sgf => true
  | _ => false

/-- The instructions that push a return address (10_state.md R31). -/
def writesStack : Instr → Bool
  | .lcall _ | .scall _ => true
  | _ => false

/-- The instructions that write SP (10_state.md R30). -/
def writesSp : Instr → Bool
  | .lcall _ | .scall _ | .ret | .rti => true
  | i => (storesTo i).any Special.isSp

/-- The instructions that write DP (10_state.md R32). -/
def writesDp : Instr → Bool
  | .ldaxi => true
  | i => (storesTo i).any Special.inDp

/-- The instructions that write EIF (10_state.md R35). -/
def writesEif : Instr → Bool
  | .dicil _ | .eicil _ | .rti => true
  | _ => false

/-- The instructions that write EIR (10_state.md R36). -/
def writesEir : Instr → Bool
  | .exae => true
  | _ => false

/-- The instructions that write the latches (10_state.md R37). -/
def writesIl : Instr → Bool
  | .cil _ | .dicil _ | .eicil _ => true
  | _ => false

/-- The state that takes from `t` the fields instruction `i` can write, and has every other field as `i` leaves it after `s`. -/
def State.framed (i : Instr) (s t : State) : State where
  params := s.params
  acc := bif writesAcc i then t.acc else s.acc
  hr := bif writesHr i then t.hr else s.hr
  lr := bif writesLr i then t.lr else s.lr
  pc := bif jumps i then t.pc else s.pc + BitVec.ofNat 14 i.length
  cf := bif writesCf i then t.cf else s.cf
  zf := bif writesZf i then t.zf else s.zf
  sf := bif keepsSf i then s.sf else setsSf i || t.sf
  gf := bif writesGf i then t.gf else s.gf
  sp := bif writesSp i then t.sp else s.sp
  stack := bif writesStack i then t.stack else s.stack
  dp := bif writesDp i then t.dp else s.dp
  ta := bif (storesTo i).any Special.inTa then t.ta else s.ta
  tb := bif (storesTo i).any Special.inTb then t.tb else s.tb
  eif := bif writesEif i then t.eif else s.eif
  eir := bif writesEir i then t.eir else s.eir
  il := bif writesIl i then t.il else s.il
  ram := bif writesRam i then t.ram else s.ram
  rom := s.rom
  portOut := bif writesPort i then t.portOut else s.portOut
  events := bif writesPort i || readsPort i then t.events else s.events
  portReads := bif readsPort i then t.portReads else s.portReads
  agent := s.agent

/-- STA goes to a register part or to data memory, as its address byte says (10_state.md R41). -/
theorem execSta_framed (x : DataAddr) (s : State) : Ensures (fun t => t = s.framed (.sta x) t) (execSta x s) := by
  have hstore : storesTo (.sta x) = specialAt x := rfl
  unfold execSta State.framed writesSp writesDp
  simp only [hstore]
  generalize specialAt x = part
  cases part with
  | none => exact ensures_memWrite fun _ => ensures_next rfl
  | some r => cases r <;> exact ensures_next rfl

/-- An instruction that answers a next state writes no other fields than its own. -/
theorem exec_framed (i : Instr) (s : State) : Ensures (fun t => t = s.framed i t) (exec i s) := by
  cases i
  case adcam | addam | andam | cmp | cmpa | cmpm | ldam | oram | sbcam | tfm | tt | xoram =>
    exact ensures_memRead fun _ _ => ensures_next rfl
  case add | addm | andm | clm | clr | decm | exa | exam | incm | orm | sem | set | subm =>
    exact ensures_memRead fun _ _ => ensures_memWrite fun _ => ensures_next rfl
  case stam | stamd | stami | std | stdmi => exact ensures_memWrite fun _ => ensures_next rfl
  case sta x => exact execSta_framed x s
  case lda x =>
    show Ensures _ (execLda x s)
    unfold execLda
    split
    · exact ensures_next rfl
    · exact ensures_memRead fun _ _ => ensures_next rfl
  case ldax | ldaxi => exact ensures_orFault fun _ _ => ensures_next rfl
  case ldhl =>
    exact ensures_ite (fun _ => ensures_memRead fun _ _ => ensures_memRead fun _ _ => ensures_next rfl) fun _ => ensures_fault _
  case exhl =>
    exact ensures_ite (fun _ => ensures_memRead fun _ _ => ensures_memRead fun _ _ => ensures_memWrite fun _ => ensures_memWrite fun _ =>
      ensures_next rfl) fun _ => ensures_fault _
  case cgf | sgf | tgs | slbr => exact ensures_ite (fun _ => ensures_next rfl) fun _ => ensures_fault _
  case ina | tfp | ttp | tfpl => exact ensures_portRead (ensures_next rfl)
  case inm => exact ensures_portRead (ensures_memWrite fun _ => ensures_next rfl)
  case clp | clpl | out | outa | sepl => exact ensures_portWrite (ensures_next rfl)
  case sep => exact ensures_ite (fun _ => ensures_fault _) fun _ => ensures_portWrite (ensures_next rfl)
  case out12 => exact ensures_memRead fun _ _ => ensures_orFault fun _ _ => ensures_portWrite2 (ensures_next rfl)
  case ret => exact ensures_orFault fun _ _ => ensures_next rfl
  case rti => exact ensures_returnFromInterrupt fun _ _ _ => ensures_next rfl
  all_goals exact ensures_next rfl

/-- No instruction is refused: the model gives each a meaning. -/
theorem exec_ne_refused (i : Instr) (s : State) (e : Refusal) : exec i s ≠ .refused e := (exec_framed i s).ne_refused e

/-- Settles O51: the three fields of the frame equation. -/
theorem workingRegisterWriters : Obligations.WorkingRegisterWriters := by
  intro i s t h
  have ht := (exec_framed i s).of_next h
  refine ⟨fun hw => ?_, fun hw => ?_, fun hw => ?_⟩ <;> rw [ht] <;> simp [State.framed, hw]

theorem eq_cgf_or_sgf_of_writesGf {i : Instr} (h : writesGf i = true) : i = .cgf ∨ i = .sgf := by
  cases i
  case cgf => exact .inl rfl
  case sgf => exact .inr rfl
  all_goals cases h

/-- Settles O52: the three fields of the frame equation. -/
theorem carryZeroGeneralWriters : Obligations.CarryZeroGeneralWriters := by
  intro i s t h
  have ht := (exec_framed i s).of_next h
  refine ⟨fun hw => ?_, fun hw => ?_, fun hcgf hsgf => ?_⟩
  · rw [ht]; simp [State.framed, hw]
  · rw [ht]; simp [State.framed, hw]
  · have hw : writesGf i = false := by
      by_contra hw
      rcases eq_cgf_or_sgf_of_writesGf (by simpa using hw) with hi | hi
      · exact hcgf hi
      · exact hsgf hi
    rw [ht]; simp [State.framed, hw]

/-- No instruction is in both lists of 10_state.md R27. -/
theorem keepsSf_eq_false_of_setsSf {i : Instr} (h : setsSf i = true) : keepsSf i = false := by
  cases i
  case nop | lcall | scall | ret => cases h
  all_goals rfl

/-- Settles O53: SF in the frame equation. -/
theorem statusFlagDiscipline : Obligations.StatusFlagDiscipline := by
  intro i s t h
  have ht := (exec_framed i s).of_next h
  refine ⟨fun hk => ?_, fun hs => ?_⟩
  · rw [ht]; simp [State.framed, hk]
  · rw [ht]; simp [State.framed, hs, keepsSf_eq_false_of_setsSf hs]

/-! Which instructions write a special register, as the lists of 10_state.md R30 to R37 name them. The address bytes of STA that name a
register part are those of R41. -/

theorem addr_of_isSp {x : DataAddr} (h : (specialAt x).any Special.isSp = true) : x = 0xFF#8 := by
  revert x; decide

theorem addr_of_inDp {x : DataAddr} (h : (specialAt x).any Special.inDp = true) : x = 0xFC#8 ∨ x = 0xFD#8 ∨ x = 0xFE#8 := by
  revert x; decide

theorem addr_of_inTa {x : DataAddr} (h : (specialAt x).any Special.inTa = true) : x = 0xF4#8 ∨ x = 0xF5#8 ∨ x = 0xF6#8 := by
  revert x; decide

theorem addr_of_inTb {x : DataAddr} (h : (specialAt x).any Special.inTb = true) : x = 0xF8#8 ∨ x = 0xF9#8 ∨ x = 0xFA#8 := by
  revert x; decide

theorem cases_of_writesSp {i : Instr} (h : writesSp i = true) :
    (∃ a, i = .lcall a) ∨ (∃ n, i = .scall n) ∨ i = .ret ∨ i = .rti ∨ i = .stasp ∨ i = .sta 0xFF#8 := by
  cases i
  case sta x => simp [addr_of_isSp h]
  case lcall | scall | ret | rti | stasp => simp
  all_goals cases h

theorem mem_of_writesDp {i : Instr} (h : writesDp i = true) :
    i ∈ [Instr.stadpl, .stadpm, .stadph, .ldaxi, .sta 0xFC#8, .sta 0xFD#8, .sta 0xFE#8] := by
  cases i
  case sta x => simpa using addr_of_inDp h
  case stadpl | stadpm | stadph | ldaxi => simp
  all_goals cases h

theorem mem_of_inTa {i : Instr} (h : (storesTo i).any Special.inTa = true) :
    i ∈ [Instr.statal, .statam, .statah, .sta 0xF4#8, .sta 0xF5#8, .sta 0xF6#8] := by
  cases i
  case sta x => simpa using addr_of_inTa h
  case statal | statam | statah => simp
  all_goals cases h

theorem mem_of_inTb {i : Instr} (h : (storesTo i).any Special.inTb = true) :
    i ∈ [Instr.statbl, .statbm, .statbh, .sta 0xF8#8, .sta 0xF9#8, .sta 0xFA#8] := by
  cases i
  case sta x => simpa using addr_of_inTb h
  case statbl | statbm | statbh => simp
  all_goals cases h

theorem cases_of_writesEif {i : Instr} (h : writesEif i = true) : (∃ r, i = .dicil r) ∨ (∃ r, i = .eicil r) ∨ i = .rti := by
  cases i
  case dicil | eicil | rti => simp
  all_goals cases h

theorem eq_exae_of_writesEir {i : Instr} (h : writesEir i = true) : i = .exae := by
  cases i
  case exae => rfl
  all_goals cases h

theorem cases_of_writesIl {i : Instr} (h : writesIl i = true) : (∃ r, i = .cil r) ∨ (∃ r, i = .dicil r) ∨ (∃ r, i = .eicil r) := by
  cases i
  case cil | dicil | eicil => simp
  all_goals cases h

theorem cases_of_writesStack {i : Instr} (h : writesStack i = true) : (∃ a, i = .lcall a) ∨ (∃ n, i = .scall n) := by
  cases i
  case lcall | scall => simp
  all_goals cases h

/-- No instruction sets a latch: CIL, DICIL and EICIL mask them, the others leave them. -/
theorem exec_il {i : Instr} {s t : State} (h : exec i s = .next t) : ∃ r : Latches, t.il = s.il &&& r := by
  cases hw : writesIl i with
  | false =>
    rw [(exec_framed i s).of_next h]
    exact ⟨BitVec.allOnes 6, by rw [BitVec.and_allOnes]; simp only [State.framed, hw, cond_false]⟩
  | true =>
    rcases cases_of_writesIl hw with ⟨r, rfl⟩ | ⟨r, rfl⟩ | ⟨r, rfl⟩ <;> cases h <;> exact ⟨r, rfl⟩

/-- Settles O54: a register that changed is one the frame equation lets the instruction write. -/
theorem specialRegisterWriters : Obligations.SpecialRegisterWriters := by
  intro i s t h
  have ht := (exec_framed i s).of_next h
  refine ⟨fun hne => cases_of_writesSp ?_, fun hne => mem_of_writesDp ?_, fun hne => mem_of_inTa ?_, fun hne => mem_of_inTb ?_,
    fun hne => cases_of_writesEif ?_, fun hne => eq_exae_of_writesEir ?_, fun hne => cases_of_writesIl ?_, fun j hj => ?_⟩
  case refine_8 =>
    obtain ⟨r, hr⟩ := exec_il h
    rw [hr, BitVec.getLsbD_and, Bool.and_eq_true] at hj
    exact hj.1
  all_goals
    by_contra hw
    rw [Bool.not_eq_true] at hw
    exact hne (by rw [ht]; simp only [State.framed, hw, cond_false])

/-- Settles O55: the fields of memory, stack and ports in the frame equation, and PC. -/
theorem memoryAndPortWriters : Obligations.MemoryAndPortWriters := by
  intro i s t h
  have ht := (exec_framed i s).of_next h
  refine ⟨fun hw => ?_, fun hne => cases_of_writesStack ?_, fun hw => ?_, fun hr => ?_, fun hw hr => ?_, fun hj => ?_, ?_, ?_, ?_⟩
  case refine_2 =>
    by_contra hw
    rw [Bool.not_eq_true] at hw
    exact hne (by rw [ht]; simp only [State.framed, hw, cond_false])
  case refine_1 | refine_3 => rw [ht]; simp only [State.framed, hw, cond_false]
  case refine_4 => rw [ht]; simp only [State.framed, hr, cond_false]
  case refine_5 => rw [ht]; simp only [State.framed, hw, hr, Bool.or_false, cond_false]
  case refine_6 => rw [ht]; simp only [State.framed, hj, cond_false]
  all_goals rw [ht]; rfl

end Sys2Proof.Machine
end

section
/-! SUPPORT AND PROOF. The invariant of the machine (20_memory.md R60, R62, R67, R74, 10_state.md R23, R24, R31): the boundary, interrupt
entry and every instruction keep each part of it. -/

namespace Sys2Proof.Machine

/-- Interrupt entry, field by field (60_exceptions.md R407). -/
theorem State.enterInterrupt_eq (s : State) (src : IntSource) :
    s.enterInterrupt src = { s with
      stack := s.stack.write s.sp.toNat ⟨s.pc, some ⟨s.cf, s.zf, s.sf⟩⟩, sp := s.sp - 1#4, eif := false,
      il := s.il &&& ~~~(latchBit src.latch), pc := src.vector.setWidth 14 } := by
  simp only [State.enterInterrupt, State.push, State.setStack, State.setSp, State.setEif, State.setIl, State.setPc]

/-! ### Port events -/

/-- At most one event is new, it comes last, and the read count grows by it if it is a read. -/
def State.recordedOn (s t : State) : Prop :=
  ∃ l : List PortEvent, t.events = s.events ++ l ∧ l.length ≤ 1 ∧ t.portReads = s.portReads + (l.filter PortEvent.isRead).length

theorem State.recordedOn_one {s t : State} (e : PortEvent) (he : t.events = s.events ++ [e])
    (hn : t.portReads = s.portReads + ([e].filter PortEvent.isRead).length) : s.recordedOn t :=
  ⟨[e], he, Nat.le_refl 1, hn⟩

theorem State.recordedOn_none {s t : State} (he : t.events = s.events) (hn : t.portReads = s.portReads) : s.recordedOn t :=
  ⟨[], by simp [he], Nat.zero_le 1, by simp [hn]⟩

/-- An instruction records one event if it reads or writes ports, else none. -/
theorem exec_recordedOn (i : Instr) (s : State) : Ensures s.recordedOn (exec i s) := by
  cases i
  case ina p | tfp p _ | ttp p _ => exact ensures_portRead (ensures_next (State.recordedOn_one (.read (portOf p) _) rfl rfl))
  case tfpl => exact ensures_portRead (ensures_next (State.recordedOn_one (.read s.lrPort _) rfl rfl))
  case inm p =>
    exact ensures_portRead (ensures_memWrite fun _ => ensures_next (State.recordedOn_one (.read (portOf p) _) rfl rfl))
  case clp p _ | out _ p => exact ensures_portWrite (ensures_next (State.recordedOn_one (.write (portOf p) _) rfl rfl))
  case outa p => exact ensures_portWrite (ensures_next (State.recordedOn_one (.write p _) rfl rfl))
  case clpl | sepl => exact ensures_portWrite (ensures_next (State.recordedOn_one (.write s.lrPort _) rfl rfl))
  case sep p _ =>
    exact ensures_ite (fun _ => ensures_fault _) fun _ =>
      ensures_portWrite (ensures_next (State.recordedOn_one (.write (portOf p) _) rfl rfl))
  case out12 =>
    exact ensures_memRead fun _ _ => ensures_orFault fun _ _ =>
      ensures_portWrite2 (ensures_next (State.recordedOn_one (.write2 1#5 _ 2#5 _) rfl rfl))
  all_goals
    refine ensures_of_forall (exec_framed _ s) fun t h => ?_
    have ht := (exec_framed _ s).of_next h
    exact State.recordedOn_none (by rw [ht]; rfl) (by rw [ht]; rfl)

/-- A step either enters an interrupt, which no port sees, or runs an instruction. -/
theorem step_recordedOn {s t : State} (h : step s = .next t) : s.recordedOn t := by
  rcases step_next_iff.1 h with ⟨src, -, rfl⟩ | ⟨-, i, -, hexec⟩
  · rw [State.enterInterrupt_eq]
    exact State.recordedOn_none s.atBoundary_events s.atBoundary_portReads
  · obtain ⟨l, he, hl, hn⟩ := (exec_recordedOn i s.atBoundary).of_next hexec
    rw [State.atBoundary_events] at he
    rw [State.atBoundary_portReads] at hn
    exact ⟨l, he, hl, hn⟩

/-- Settles O56: `step_recordedOn`, whose relation is the statement. -/
theorem eventsInProgramOrder : Obligations.EventsInProgramOrder := fun _ _ h => step_recordedOn h

/-! ### Program memory and parameters -/

theorem exec_params_rom {i : Instr} {s t : State} (h : exec i s = .next t) : t.params = s.params ∧ t.rom = s.rom := by
  have ht := (exec_framed i s).of_next h
  exact ⟨by rw [ht]; rfl, by rw [ht]; rfl⟩

/-- Neither interrupt entry nor an instruction touches them. -/
theorem step_params_rom {s t : State} (h : step s = .next t) : t.params = s.params ∧ t.rom = s.rom := by
  rcases step_next_iff.1 h with ⟨src, -, rfl⟩ | ⟨-, i, -, hexec⟩
  · rw [State.enterInterrupt_eq]
    exact ⟨s.atBoundary_params, s.atBoundary_rom⟩
  · obtain ⟨hp, hr⟩ := exec_params_rom hexec
    exact ⟨hp.trans s.atBoundary_params, hr.trans s.atBoundary_rom⟩

/-- Settles O58: `step_params_rom`. -/
theorem programNeverChanges : Obligations.ProgramNeverChanges := fun _ _ h => step_params_rom h

/-! ### Data memory -/

/-- Data memory has its canonical form and lists only addresses below RAM_SIZE (20_memory.md R62). -/
def State.ramSound (s : State) : Prop := s.ram.wf = true ∧ s.ram.below s.params.ramSize = true

/-- A store at a valid address keeps data memory sound. -/
theorem State.ramSound_store {s : State} {a : DataAddr} (ha : s.validData a = true) (v : Nibble) (h : s.ramSound) :
    { s with ram := s.ram.write a.toNat v }.ramSound :=
  ⟨Memory.wf_write _ _ _ h.1, Memory.below_write _ _ _ ((State.validData_iff s a).1 ha).1 h.2⟩

theorem exec_ramSound (i : Instr) {s : State} (hs : s.ramSound) : Ensures State.ramSound (exec i s) := by
  cases i
  case add | addm | andm | clm | clr | decm | exa | exam | incm | orm | sem | set | subm =>
    exact ensures_memRead fun _ _ => ensures_memWrite fun ha => ensures_next (State.ramSound_store ha _ hs)
  case stam | stamd | stami | std | stdmi =>
    exact ensures_memWrite fun ha => ensures_next (State.ramSound_store ha _ hs)
  case sta x =>
    show Ensures _ (execSta x s)
    unfold execSta
    split
    · next r _ => cases r <;> exact ensures_next hs
    · exact ensures_memWrite fun ha => ensures_next (State.ramSound_store ha _ hs)
  case inm => exact ensures_portRead (ensures_memWrite fun ha => ensures_next (State.ramSound_store ha _ hs))
  case exhl =>
    exact ensures_ite (fun _ => ensures_memRead fun _ _ => ensures_memRead fun _ _ => ensures_memWrite fun ha =>
      ensures_memWrite fun hb => ensures_next (State.ramSound_store hb _ (State.ramSound_store ha _ hs))) fun _ => ensures_fault _
  all_goals
    refine ensures_of_forall (exec_framed _ s) fun t h => ?_
    have ht := (exec_framed _ s).of_next h
    rw [ht]
    exact hs

/-! ### Program counter and stack -/

/-- The return stack has its canonical form and sixteen places, and every saved PC is a program address or the one just past the 13 bits
(10_state.md R31, log entry 7). -/
def stackSound (m : Memory StackEntry) : Prop :=
  m.wf = true ∧ m.below 16 = true ∧ ∀ c ∈ m, c.2.pc.toNat ≤ 0x2000

theorem stackSound_write {m : Memory StackEntry} (hm : stackSound m) (i : Nibble) {e : StackEntry} (he : e.pc.toNat ≤ 0x2000) :
    stackSound (m.write i.toNat e) := by
  obtain ⟨hwf, hbelow, hpc⟩ := hm
  refine ⟨Memory.wf_write _ _ _ hwf, Memory.below_write _ _ _ i.isLt hbelow, fun c hc => ?_⟩
  rcases Memory.mem_write hc with rfl | hc
  · exact he
  · exact hpc c hc

theorem stackSound_read {m : Memory StackEntry} (hm : stackSound m) {i : Nat} {e : StackEntry} (h : m.read i = some e) :
    e.pc.toNat ≤ 0x2000 := by
  obtain ⟨-, -, hpc⟩ := hm
  exact hpc _ (Memory.mem_of_read h)

theorem Chip.romSize_le (c : Chip) : c.romSize ≤ 0x2000 := by cases c <;> decide

/-- The address after a fetched instruction is a program address or the one just past them. -/
theorem next_le_of_fetch {s : State} {i : Instr} (h : s.fetch = .ok i) : (s.next i.length).toNat ≤ 0x2000 := by
  have hend := State.fetch_length h
  have hrom := Chip.romSize_le s.params.chip
  have hlen := i.length_le_three
  rw [State.next, BitVec.toNat_add, BitVec.toNat_ofNat]
  omega

theorem setWidth_le (n : Nat) (a : BitVec n) (hn : n ≤ 13) : (a.setWidth 14 : CodeAddr).toNat ≤ 0x2000 := by
  have ha := a.isLt
  have hpow : 2 ^ n ≤ 2 ^ 13 := Nat.pow_le_pow_right (by decide) hn
  rw [BitVec.toNat_setWidth, Nat.mod_eq_of_lt (by omega)]
  omega

theorem toNat_append_eq {m n : Nat} (x : BitVec m) (y : BitVec n) : (x ++ y).toNat = x.toNat * 2 ^ n + y.toNat := by
  rw [BitVec.toNat_append, ← Nat.shiftLeft_add_eq_or_of_lt y.isLt, Nat.shiftLeft_eq]

/-- SBR's target lies in the 64-byte page of the next address (43_nop_to_sgf.md R271). -/
theorem sbrTarget_toNat (next : CodeAddr) (a : BitVec 6) : (sbrTarget next a).toNat = next.toNat % 0x2000 / 64 * 64 + a.toNat := by
  have ha := a.isLt
  rw [sbrTarget, toNat_append_eq, toNat_append_eq, BitVec.extractLsb'_toNat, Nat.shiftRight_eq_div_pow, BitVec.toNat_ofNat]
  omega

/-- LBR's target on the 8K chip lies in the 4K bank of the next address (42_lbr_to_ldl.md R239). -/
theorem lbrTarget_toNat_rom8K (next : CodeAddr) (a : BitVec 12) :
    (lbrTarget .rom8K next a).toNat = next.toNat % 0x2000 / 4096 * 4096 + a.toNat := by
  rw [lbrTarget, toNat_append_eq, toNat_append_eq, BitVec.extractLsb'_toNat, Nat.shiftRight_eq_div_pow, BitVec.toNat_ofNat]
  omega

theorem sbrTarget_le (next : CodeAddr) (a : BitVec 6) : (sbrTarget next a).toNat ≤ 0x2000 := by
  have ha := a.isLt
  rw [sbrTarget_toNat]
  omega

theorem lbrTarget_le (c : Chip) (next : CodeAddr) (a : BitVec 12) : (lbrTarget c next a).toNat ≤ 0x2000 := by
  cases c with
  | rom8K =>
    have ha := a.isLt
    rw [lbrTarget_toNat_rom8K]
    omega
  | rom2K | rom4K => exact setWidth_le 12 a (by decide)

theorem scallTarget_toNat (n : Nibble) : (scallTarget n).toNat = if n = 0#4 then 0x86 else 8 * n.toNat + 6 := by
  revert n; decide

theorem scallTarget_le (n : Nibble) : (scallTarget n).toNat ≤ 0x2000 := by
  revert n; decide

/-- A branch goes to its target or to the next instruction. -/
theorem branch_pc_le {s : State} {n : Nat} {target : CodeAddr} (ht : target.toNat ≤ 0x2000) (hn : (s.next n).toNat ≤ 0x2000) :
    Ensures (fun t => t.pc.toNat ≤ 0x2000) (branch s n target) := by
  refine ensures_next ?_
  show (if s.sf then target else s.next n).toNat ≤ 0x2000
  split
  · exact ht
  · exact hn

/-- Wherever an instruction goes, it is a program address or the one just past them. -/
theorem exec_pc_le {i : Instr} {s : State} (hstack : stackSound s.stack) (hn : (s.next i.length).toNat ≤ 0x2000) :
    Ensures (fun t => t.pc.toNat ≤ 0x2000) (exec i s) := by
  cases i
  case sbr a => exact branch_pc_le (sbrTarget_le _ a) hn
  case lbr a => exact branch_pc_le (lbrTarget_le _ _ a) hn
  case slbr a => exact ensures_ite (fun _ => branch_pc_le (setWidth_le 13 a (by decide)) hn) fun _ => ensures_fault _
  case lcall a => exact ensures_next (setWidth_le 11 a (by decide))
  case scall n => exact ensures_next (scallTarget_le n)
  case ret =>
    refine ensures_orFault fun pc hpc => ensures_next ?_
    obtain ⟨e, he, rfl⟩ := State.stackPc_ok_iff.1 hpc
    exact stackSound_read hstack he
  case rti => exact ensures_returnFromInterrupt fun pc fl he => ensures_next (stackSound_read hstack he)
  all_goals
    refine ensures_of_forall (exec_framed _ s) fun t h => ?_
    have ht := (exec_framed _ s).of_next h
    rw [ht]
    exact hn

/-- Calls push the address of the next instruction; nothing else changes the stack. -/
theorem exec_stackSound {i : Instr} {s : State} (hstack : stackSound s.stack) (hn : (s.next i.length).toNat ≤ 0x2000) :
    Ensures (fun t => stackSound t.stack) (exec i s) := by
  refine ensures_of_forall (exec_framed i s) fun t h => ?_
  have ht := (exec_framed i s).of_next h
  cases hw : writesStack i with
  | false =>
    have hkept : t.stack = s.stack := by rw [ht]; simp only [State.framed, hw, cond_false]
    rwa [hkept]
  | true =>
    rcases cases_of_writesStack hw with ⟨a, rfl⟩ | ⟨n, rfl⟩ <;> cases h <;> exact stackSound_write hstack s.sp hn

/-! ### The invariant -/

/-- What the invariant says, part by part. -/
theorem State.inv_iff (s : State) :
    s.inv = true ↔
      s.params.wf = true ∧ s.ramSound ∧ stackSound s.stack ∧ (s.rom.wf = true ∧ s.rom.below s.params.chip.romSize = true) ∧
        s.pc.toNat ≤ 0x2000 ∧ s.portReads = (s.events.filter PortEvent.isRead).length := by
  simp only [State.inv, State.ramSound, stackSound, Bool.and_eq_true, decide_eq_true_eq, List.all_eq_true]
  tauto

theorem State.inv_atBoundary {s : State} (h : s.inv = true) : s.atBoundary.inv = true := by
  simpa [State.inv] using h

theorem inv_enterInterrupt {s : State} (src : IntSource) (h : s.inv = true) : (s.enterInterrupt src).inv = true := by
  obtain ⟨hp, hram, hstack, hrom, hpc, hreads⟩ := (State.inv_iff s).1 h
  rw [State.enterInterrupt_eq]
  exact (State.inv_iff _).2 ⟨hp, hram, stackSound_write hstack s.sp hpc, hrom, setWidth_le 13 src.vector (by decide), hreads⟩

/-- An instruction that was fetched keeps the invariant. -/
theorem inv_exec {s t : State} {i : Instr} (h : s.inv = true) (hfetch : s.fetch = .ok i) (hexec : exec i s = .next t) : t.inv = true := by
  obtain ⟨hp, hram, hstack, hrom, hpc, hreads⟩ := (State.inv_iff s).1 h
  obtain ⟨hparams, hromEq⟩ := exec_params_rom hexec
  obtain ⟨l, he, -, hn⟩ := (exec_recordedOn i s).of_next hexec
  have hnext := next_le_of_fetch hfetch
  refine (State.inv_iff t).2 ⟨?_, (exec_ramSound i hram).of_next hexec, (exec_stackSound hstack hnext).of_next hexec, ?_,
    (exec_pc_le hstack hnext).of_next hexec, ?_⟩
  · rwa [hparams]
  · rwa [hparams, hromEq]
  · rw [he, hn, hreads, List.filter_append, List.length_append]

/-- Settles O60: the boundary keeps the invariant, and so do interrupt entry and every instruction. -/
theorem invariantKept : Obligations.InvariantKept := by
  intro s t h hstep
  have hb := State.inv_atBoundary h
  rcases step_next_iff.1 hstep with ⟨src, -, rfl⟩ | ⟨-, i, hfetch, hexec⟩
  · exact inv_enterInterrupt src hb
  · exact inv_exec hb hfetch hexec

/-- Settles O59: every memory is empty and nothing was read. -/
theorem invariantAtReset : Obligations.InvariantAtReset := by
  have hreset : ∀ p : Params, p.wf = true → (State.resetWith p).inv = true := fun p hp =>
    (State.inv_iff _).2 ⟨hp, ⟨rfl, rfl⟩, ⟨rfl, rfl, fun _ h => nomatch h⟩, ⟨rfl, rfl⟩, setWidth_le 13 p.resetPc (by decide), rfl⟩
  refine ⟨hreset _ (by decide), rfl, rfl, fun p hp => ⟨hreset p hp, ?_, rfl, fun a => ⟨rfl, rfl, rfl⟩⟩⟩
  exact BitVec.toNat_setWidth_of_le (by decide)

end Sys2Proof.Machine
end

section
/-! SUPPORT AND PROOF. The step at an instruction boundary (60_exceptions.md R401 to R410, 20_memory.md R64): the outside agents' move,
interrupt entry, the fetch and its faults, and the return from what a call or an entry saved. -/

namespace Sys2Proof.Machine

/-! ### The boundary -/

theorem State.atBoundary_eq {s : State} {m : AgentMove} {rest : List AgentMove} (h : s.agent = m :: rest) :
    s.atBoundary = { s with ta := m.ta.getD s.ta, tb := m.tb.getD s.tb, il := s.il ||| m.setIL, agent := rest } := by
  simp only [State.atBoundary, h, State.applyMove, State.setAgent, State.setTa, State.setTb, State.setIl]

/-- Settles O10: the move field by field, its latches bit by bit. -/
theorem outsideAgentMove : Obligations.OutsideAgentMove := fun _ _ _ h =>
  ⟨_, State.atBoundary_eq h, fun _ => BitVec.getLsbD_or⟩

theorem State.requests_iff (s : State) (x : IntSource) :
    s.requests x = true ↔ s.il.getLsbD x.latch.val = true ∧ s.eir ≠ 0#4 ∧ x.enables.getLsbD s.eir.toNat = true := by
  simp [State.requests, enabledBy]

/-- Settles O12: the three ways the boundary runs on. -/
theorem interruptMasking : Obligations.InterruptMasking := by
  intro s
  refine ⟨fun h => (State.boundary_run_iff s).2 (.inl h), fun h => (State.boundary_run_iff s).2 (.inr (.inl h)),
    fun srcs hsrcs heir => (State.boundary_run_iff s).2 (.inr (.inr ⟨srcs, hsrcs, fun x _ => ?_⟩)),
    fun srcs hsrcs hmask => (State.boundary_run_iff s).2 (.inr (.inr ⟨srcs, hsrcs, fun x hx => ?_⟩))⟩
  · rw [← Bool.not_eq_true, State.requests_iff]
    rintro ⟨-, hne, -⟩
    exact hne heir
  · rw [← Bool.not_eq_true, State.requests_iff]
    rintro ⟨hil, -, hen⟩
    rw [hmask x hx hil] at hen
    cases hen

/-- The first source that requests is entered. -/
theorem State.boundary_enter {s : State} {before after : List IntSource} {src : IntSource} (heif : s.eif = true)
    (hsrcs : s.params.intConfig = some (before ++ src :: after)) (hbefore : ∀ x ∈ before, ¬s.requests x = true)
    (hsrc : s.requests src = true) : s.boundary = .enter src := by
  have hil : s.il ≠ 0#6 := by
    intro h0
    obtain ⟨hlatch, -⟩ := (State.requests_iff s src).1 hsrc
    simp [h0] at hlatch
  have hfind : (before ++ src :: after).find? s.requests = some src := by
    rw [List.find?_append, List.find?_eq_none.2 hbefore, List.find?_cons_of_pos hsrc, Option.none_or]
  simp [State.boundary, heif, hil, hsrcs, hfind]

theorem step_of_enter {s : State} {src : IntSource} (h : s.atBoundary.boundary = .enter src) :
    step s = .next (s.atBoundary.enterInterrupt src) := by
  simp only [step, h]

theorem step_of_run {s : State} (h : s.atBoundary.boundary = .run) :
    step s = orFault s.atBoundary.fetch fun i => exec i s.atBoundary := by
  simp only [step, h]

/-- Clearing one latch leaves the others. -/
theorem getLsbD_clearLatch (l : Latches) (i : Fin 6) (j : Nat) :
    (l &&& ~~~(latchBit i)).getLsbD j = (l.getLsbD j && decide (j ≠ i.val)) := by
  rw [BitVec.getLsbD_and, BitVec.getLsbD_not, latchBit, ← BitVec.twoPow_eq, BitVec.getLsbD_twoPow]
  by_cases hj : j < 6
  · simp [hj, i.isLt, eq_comm]
  · rw [BitVec.getLsbD_of_ge l j (by omega), Bool.false_and, Bool.false_and]

/-- Settles O11: the boundary enters the source, and entry is `enterInterrupt_eq`. -/
theorem interruptEntry : Obligations.InterruptEntry := by
  rintro s b before after src rfl heif hsrcs hbefore hil heir hen
  have hsrc := (State.requests_iff s.atBoundary src).2 ⟨hil, heir, hen⟩
  have henter := State.boundary_enter heif hsrcs (fun x hx hreq => hbefore x hx ((State.requests_iff _ x).1 hreq)) hsrc
  refine ⟨_, _, ?_, Memory.write_spec _ _ _, fun j => getLsbD_clearLatch _ src.latch j⟩
  rw [step_of_enter henter, State.enterInterrupt_eq]

/-- Settles O13: no fetch and no instruction refuses, so the boundary does. -/
theorem interruptRefusal : Obligations.InterruptRefusal := by
  intro s
  have hboundary := State.boundary_unconfigured_iff s.atBoundary
  rw [State.atBoundary_eif, State.atBoundary_params] at hboundary
  rw [← hboundary]
  cases hb : s.atBoundary.boundary with
  | unconfigured => simp [step, hb]
  | enter src => simp [step_of_enter hb]
  | run => simp [step_of_run hb, exec_ne_refused]

/-! ### The fetch -/

theorem State.bytesAtPc_atBoundary {s : State} {bs : List Byte} : s.atBoundary.bytesAtPc bs ↔ s.bytesAtPc bs := by
  simp only [State.bytesAtPc, State.atBoundary_pc, State.atBoundary_params, State.atBoundary_rom]

theorem State.romRead_atBoundary (s : State) (a : Nat) : s.atBoundary.romRead a = s.romRead a := by
  simp only [State.romRead, State.atBoundary_params, State.atBoundary_rom]

theorem State.romRead_undefined {s : State} {a : Nat} (ha : a < s.params.chip.romSize) (h : s.rom.read a = none) :
    s.romRead a = .error (.unwrittenRead (.rom a)) := by
  simp only [State.romRead, ha, h, if_true]

/-- Bytes at PC that decode are executed. -/
theorem step_of_bytes {s : State} {bs : List Byte} {i : Instr} (hrun : s.atBoundary.boundary = .run) (hbs : s.bytesAtPc bs)
    (hd : decode s.params bs = .instr i []) : step s = exec i s.atBoundary := by
  have hfetch := State.fetch_of_instr (State.bytesAtPc_atBoundary.2 hbs) (s.atBoundary_params ▸ hd)
  rw [step_of_run hrun, hfetch, orFault_ok]

theorem step_of_fetch_error {s : State} {f : Fault} (hrun : s.atBoundary.boundary = .run) (h : s.atBoundary.fetch = .error f) :
    step s = .fault f := by
  rw [step_of_run hrun, h, orFault_error]

/-- Settles O8: the bytes at PC are fetched (`State.fetch_of_instr`) and executed. -/
theorem stepRunsDecodedInstruction : Obligations.StepRunsDecodedInstruction := fun _ _ _ =>
  ⟨fun hrun hbs hd => step_of_bytes hrun (State.bytesAtPc_atBoundary.1 hbs) hd, State.atBoundary_of_no_agent⟩

/-- Settles O9: the fetch of the state at the boundary stops as that of `s`. -/
theorem stepFetchFaults : Obligations.StepFetchFaults := by
  intro s hrun
  have hfirst : ∀ f, s.romRead s.pc.toNat = .error f → step s = .fault f := fun f h =>
    step_of_fetch_error hrun (State.fetch_of_romRead_error (by rwa [State.romRead_atBoundary, State.atBoundary_pc]))
  have hlater : ∀ bs f, s.bytesAtPc bs → decode s.params bs = .needMore → s.romRead (s.pc.toNat + bs.length) = .error f →
      step s = .fault f := fun bs f hbs hd h =>
    step_of_fetch_error hrun (State.fetch_of_needMore (State.bytesAtPc_atBoundary.2 hbs) (s.atBoundary_params ▸ hd)
      (by rwa [State.romRead_atBoundary, State.atBoundary_pc]))
  refine ⟨fun h => hfirst _ (State.romRead_outside h), fun hlt hn => hfirst _ (State.romRead_undefined hlt hn),
    fun bs hbs hd => ⟨fun he => hlater bs _ hbs hd (State.romRead_outside he.ge),
      fun hlt hn => hlater bs _ hbs hd (State.romRead_undefined hlt hn)⟩, fun bs why hbs hd => ?_⟩
  have hfetch := State.fetch_of_reserved (State.bytesAtPc_atBoundary.2 hbs) (s.atBoundary_params ▸ hd)
  rw [State.atBoundary_pc] at hfetch
  exact step_of_fetch_error hrun hfetch

/-! ### The self-loop -/

/-- A branch to its own address with SF = 1 changes nothing. -/
theorem branch_self {s : State} {n : Nat} {target : CodeAddr} (hsf : s.sf = true) (ht : target = s.pc) :
    branch s n target = .next s := by
  subst ht
  simp only [branch, hsf, if_true, State.setPc, State.setSf]
  rw [← hsf]

theorem sbrTarget_self {pc : CodeAddr} {a : BitVec 6} (hrom : pc.toNat < 0x2000) (ha : pc.toNat % 64 = a.toNat)
    (hlast : pc.toNat % 64 < 63) :
    sbrTarget (pc + 1#14) a = pc := by
  apply BitVec.eq_of_toNat_eq
  rw [sbrTarget_toNat, BitVec.toNat_add, BitVec.toNat_ofNat]
  omega

theorem lbrTarget_of_ne_rom8K {c : Chip} (hc : c ≠ .rom8K) (next : CodeAddr) (a : BitVec 12) : lbrTarget c next a = a.setWidth 14 := by
  cases c with
  | rom8K => exact absurd rfl hc
  | rom2K | rom4K => rfl

theorem lbrTarget_self {c : Chip} {pc : CodeAddr} {a : BitVec 12} (hrom : pc.toNat < c.romSize) (ha : pc.toNat % 4096 = a.toNat)
    (hlast : pc.toNat % 4096 < 4094) : lbrTarget c (pc + 2#14) a = pc := by
  apply BitVec.eq_of_toNat_eq
  cases c with
  | rom8K =>
    simp only [Chip.romSize] at hrom
    rw [lbrTarget_toNat_rom8K, BitVec.toNat_add, BitVec.toNat_ofNat]
    omega
  | rom2K | rom4K =>
    simp only [Chip.romSize] at hrom
    rw [lbrTarget_of_ne_rom8K (by decide), BitVec.toNat_setWidth_of_le (by decide)]
    omega

/-- Settles O14: the branch is taken, and its target is its own address. -/
theorem selfLoopEndsRun : Obligations.SelfLoopEndsRun := by
  intro s hrun hsf
  have hended : step s = .next s.atBoundary → s.agent = [] → s.ended := fun hstep hagent => by
    rwa [State.atBoundary_of_no_agent hagent] at hstep
  have hbranch : ∀ n target, target = s.pc → branch s.atBoundary n target = .next s.atBoundary := fun n target ht =>
    branch_self (by rwa [State.atBoundary_sf]) (by rwa [State.atBoundary_pc])
  have hrom := Chip.romSize_le s.params.chip
  refine ⟨fun a hbs ha hlast => ?_, fun a hbs ha hlast => ?_⟩
  · have hfits := hbs.1
    have hstep : step s = .next s.atBoundary := by
      rw [step_of_bytes hrun hbs (decode_sbr _ a [])]
      refine hbranch 1 _ ?_
      rw [State.next, State.atBoundary_pc]
      exact sbrTarget_self (by simp only [List.length_singleton] at hfits; omega) ha hlast
    exact ⟨hstep, hended hstep⟩
  · have hfits := hbs.1
    have hstep : step s = .next s.atBoundary := by
      rw [step_of_bytes hrun hbs (decode_lbr _ a [])]
      refine hbranch 2 _ ?_
      rw [State.next, State.atBoundary_pc, State.atBoundary_params]
      exact lbrTarget_self (by simp only [List.length_cons] at hfits; omega) ha hlast
    exact ⟨hstep, hended hstep⟩

/-! ### Returns -/

theorem exec_ret (s : State) :
    exec .ret s = orFault (s.stackPc (s.sp + 1#4)) fun pc => .next { s with sp := s.sp + 1#4, pc := pc } := rfl

theorem exec_ret_of_entry {s : State} {e : StackEntry} (h : s.stack.read (s.sp + 1#4).toNat = some e) :
    exec .ret s = .next { s with sp := s.sp + 1#4, pc := e.pc } := by
  rw [exec_ret, State.stackPc_ok_iff.2 ⟨e, h, rfl⟩, orFault_ok]

theorem exec_rti_of_entry {s : State} {pc : CodeAddr} {f : Flags} (h : s.stack.read (s.sp + 1#4).toNat = some ⟨pc, some f⟩) :
    exec .rti s = .next { s with sp := s.sp + 1#4, eif := true, cf := f.c, zf := f.z, sf := f.s, pc := pc } := by
  show orFault s.returnFromInterrupt _ = _
  rw [State.returnFromInterrupt_ok_iff.2 ⟨pc, f, h, rfl⟩, orFault_ok]
  simp only [State.setSp, State.setEif, State.setCf, State.setZf, State.setSf, State.setPc, State.popIndex]

/-- RTI stops where the flag part of the entry was never written. -/
theorem exec_rti_of_no_flags {s : State} (h : ∀ e, s.stack.read (s.sp + 1#4).toNat = some e → e.flags = none) :
    exec .rti s = .fault (.unwrittenRead (.stackFlags (s.sp + 1#4))) := by
  have hflags : s.stackFlags s.popIndex = .error (.unwrittenRead (.stackFlags (s.sp + 1#4))) := by
    unfold State.stackFlags State.popIndex
    cases he : s.stack.read (s.sp + 1#4).toNat with
    | none => rfl
    | some e => simp only [h e he]
  have hreturn : s.returnFromInterrupt = .error (.unwrittenRead (.stackFlags (s.sp + 1#4))) := by
    simp only [State.returnFromInterrupt, hflags]
  show orFault s.returnFromInterrupt _ = _
  rw [hreturn, orFault_error]

/-- Settles O42: the entry the pop reads has both parts, or no flags, or was never written. -/
theorem returns : Obligations.Returns := by
  intro s
  refine ⟨fun e h => exec_ret_of_entry h, fun pc f h => exec_rti_of_entry h, fun pc h => exec_rti_of_no_flags fun e he => ?_,
    fun h => ⟨?_, ?_⟩⟩
  · rw [h] at he
    cases he
    rfl
  · have hpc : s.stackPc (s.sp + 1#4) = .error (.unwrittenRead (.stackPc (s.sp + 1#4))) := by
      simp only [State.stackPc, h]
    rw [exec_ret, hpc, orFault_error]
  · exact exec_rti_of_no_flags fun e he => by rw [h] at he; cases he

/-- The entry a push left is the one the next pop reads, wherever SP wraps. -/
theorem read_after_push {m : Memory StackEntry} {sp : Nibble} {e : StackEntry} :
    (m.write sp.toNat e).read (sp - 1#4 + 1#4).toNat = some e := by
  rw [BitVec.sub_add_cancel, Memory.read_write_same]

/-- A return in a state whose stack and SP are those after the push of a call's entry. -/
theorem return_after_push {u : State} {m : Memory StackEntry} {sp : Nibble} {pc : CodeAddr}
    (hstack : u.stack = m.write sp.toNat ⟨pc, none⟩) (hsp : u.sp = sp - 1#4) :
    exec .ret u = .next { u with sp := sp, pc := pc } ∧ exec .rti u = .fault (.unwrittenRead (.stackFlags sp)) := by
  have hentry : u.stack.read (u.sp + 1#4).toNat = some ⟨pc, none⟩ := by rw [hstack, hsp, read_after_push]
  have hback : u.sp + 1#4 = sp := by rw [hsp, BitVec.sub_add_cancel]
  refine ⟨by rw [exec_ret_of_entry hentry, hback], ?_⟩
  rw [exec_rti_of_no_flags fun e he => by rw [hentry] at he; cases he; rfl, hback]

/-- Settles O43: the call pushed the address of the next instruction, without flags. -/
theorem callThenReturn : Obligations.CallThenReturn := by
  intro s t u hstack hsp
  refine ⟨fun a h => ?_, fun n h => ?_⟩ <;> cases h <;> exact return_after_push hstack hsp

/-- Settles O44: entry pushed PC with the flags. -/
theorem interruptThenReturn : Obligations.InterruptThenReturn := by
  intro s u src hstack hsp
  rw [State.enterInterrupt_eq] at hstack hsp
  have hentry : u.stack.read (u.sp + 1#4).toNat = some ⟨s.pc, some ⟨s.cf, s.zf, s.sf⟩⟩ := by rw [hstack, hsp, read_after_push]
  have hback : u.sp + 1#4 = s.sp := by rw [hsp, BitVec.sub_add_cancel]
  exact ⟨by rw [exec_rti_of_entry hentry, hback], by rw [exec_ret_of_entry hentry, hback]⟩

end Sys2Proof.Machine
end

section
/-! SUPPORT. What the shared operations answer, field by field: the ways an instruction ends, and the accesses where they go through. -/

namespace Sys2Proof.Machine

/-! ### Accesses that go through -/

theorem orFault_memRead {s : State} {a : DataAddr} {m : Nibble} (h : s.cellHolds a m) (k : Nibble → Result) :
    orFault (s.memRead a) k = k m := by
  rw [State.memRead_of_cellHolds h, orFault_ok]

theorem orFault_memWrite {s : State} {a : DataAddr} (h : s.validData a = true) (v : Nibble) (k : State → Result) :
    orFault (s.memWrite a v) k = k { s with ram := s.ram.write a.toNat v } := by
  rw [State.memWrite_valid h, orFault_ok]
  rfl

theorem orFault_portRead {s : State} {p : PortNo} (h : s.readable p = true) (k : Nibble × State → Result) :
    orFault (s.portRead p) k =
      k (s.portInput p, { s with portReads := s.portReads + 1, events := s.events ++ [.read p (s.portInput p)] }) := by
  rw [State.portRead_ok_iff.2 ⟨h, rfl⟩, orFault_ok]
  rfl

theorem orFault_portWrite {s : State} {p : PortNo} (h : s.writable p = true) (v : Nibble) (k : State → Result) :
    orFault (s.portWrite p v) k = k { s with portOut := s.portOut.set p.toNat v, events := s.events ++ [.write p v] } := by
  rw [State.portWrite_ok_iff.2 ⟨h, rfl⟩, orFault_ok]
  rfl

theorem orFault_portWrite2 {s : State} {p1 p2 : PortNo} (h1 : s.writable p1 = true) (h2 : s.writable p2 = true) (v1 v2 : Nibble)
    (k : State → Result) :
    orFault (s.portWrite2 p1 v1 p2 v2) k = k { s with
      portOut := (s.portOut.set p1.toNat v1).set p2.toNat v2, events := s.events ++ [.write2 p1 v1 p2 v2] } := by
  rw [State.portWrite2_ok_iff.2 ⟨h1, h2, rfl⟩, orFault_ok]
  rfl

theorem orFault_romRead {s : State} {a : Nat} {b : Byte} (ha : a < s.params.chip.romSize) (h : s.rom.read a = some b) (k : Byte → Result) :
    orFault (s.romRead a) k = k b := by
  rw [State.romRead_ok_iff.2 ⟨ha, h⟩, orFault_ok]

/-! ### The ways an instruction ends -/

theorem finish_eq (s : State) (n : Nat) (f : Bool) : finish s n f = .next { s with sf := f, pc := s.pc + BitVec.ofNat 14 n } := rfl

theorem resultToAcc_eq (s : State) (n : Nat) (v : Nibble) (f : Bool) :
    resultToAcc s n v f = .next { s with acc := v, zf := decide (v = 0#4), sf := f, pc := s.pc + BitVec.ofNat 14 n } := by
  rw [← isz_eq]; rfl

theorem resultToHr_eq (s : State) (n : Nat) (v : Nibble) (f : Bool) :
    resultToHr s n v f = .next { s with hr := v, zf := decide (v = 0#4), sf := f, pc := s.pc + BitVec.ofNat 14 n } := by
  rw [← isz_eq]; rfl

theorem resultToLr_eq (s : State) (n : Nat) (v : Nibble) (f : Bool) :
    resultToLr s n v f = .next { s with lr := v, zf := decide (v = 0#4), sf := f, pc := s.pc + BitVec.ofNat 14 n } := by
  rw [← isz_eq]; rfl

theorem resultToCell_eq {s : State} {a : DataAddr} (h : s.validData a = true) (n : Nat) (v : Nibble) (f : Bool) :
    resultToCell s n a v f = .next { s with
      ram := s.ram.write a.toNat v, zf := decide (v = 0#4), sf := f, pc := s.pc + BitVec.ofNat 14 n } := by
  rw [resultToCell, orFault_memWrite h, ← isz_eq]; rfl

theorem storeCell_eq {s : State} {a : DataAddr} (h : s.validData a = true) (n : Nat) (v : Nibble) :
    storeCell s n a v = .next { s with ram := s.ram.write a.toNat v, sf := true, pc := s.pc + BitVec.ofNat 14 n } := by
  rw [storeCell, orFault_memWrite h]; rfl

theorem storeThenStep_eq {s : State} (h : s.validData s.hl = true) (v stepped : Nibble) (f : Bool) :
    storeThenStep s v stepped f = .next { s with
      ram := s.ram.write s.hl.toNat v, lr := stepped, zf := decide (v = 0#4), sf := f, pc := s.pc + 1#14 } := by
  rw [storeThenStep, orFault_memWrite h, ← isz_eq]; rfl

theorem updateCell_eq {s : State} {a : DataAddr} {m : Nibble} (h : s.cellHolds a m) (n : Nat) (f : Nibble → Nibble) :
    updateCell s n a f = .next { s with ram := s.ram.write a.toNat (f m), sf := true, pc := s.pc + BitVec.ofNat 14 n } := by
  rw [updateCell, orFault_memRead h, storeCell_eq h.1]

theorem exchangeCell_eq {s : State} {a : DataAddr} {m : Nibble} (h : s.cellHolds a m) (n : Nat) :
    exchangeCell s n a = .next { s with
      acc := m, ram := s.ram.write a.toNat s.acc, zf := decide (m = 0#4), sf := true, pc := s.pc + BitVec.ofNat 14 n } := by
  rw [exchangeCell, orFault_memRead h, orFault_memWrite h.1, resultToAcc_eq]

theorem loadSpecial_eq (s : State) (r : Special) :
    loadSpecial s r = .next { s with acc := s.special r, zf := decide (s.special r = 0#4), sf := true, pc := s.pc + 2#14 } :=
  resultToAcc_eq s 2 _ true

theorem clearLatches_eq (s : State) (r : Latches) :
    clearLatches s r = .next { s with il := s.il &&& r, sf := true, pc := s.pc + 2#14 } := rfl

theorem branch_eq (s : State) (n : Nat) (target : CodeAddr) :
    branch s n target = .next { s with pc := if s.sf then target else s.pc + BitVec.ofNat 14 n, sf := true } := rfl

theorem State.call_eq (s : State) (n : Nat) (target : CodeAddr) :
    s.call n target = { s with
      stack := s.stack.write s.sp.toNat ⟨s.pc + BitVec.ofNat 14 n, none⟩, sp := s.sp - 1#4, pc := target } := rfl

theorem writePort_eq {s : State} {p : PortNo} (h : s.writable p = true) (n : Nat) (v : Nibble) :
    writePort s n p v = .next { s with
      portOut := s.portOut.set p.toNat v, events := s.events ++ [.write p v], sf := true, pc := s.pc + BitVec.ofNat 14 n } := by
  rw [writePort, orFault_portWrite h]; rfl

/-! ### Sums, differences and their flags (00_scope.md R13) -/

theorem add4_false (a b : Nibble) : add4 a b false = (a + b, decide (16 ≤ a.toNat + b.toNat)) := by
  exact Prod.ext (by simp) (by simp)

theorem sub4_false (a b : Nibble) : sub4 a b false = (a - b, decide (b.toNat ≤ a.toNat)) := by
  exact Prod.ext (by simp) (by simp)

theorem difference_zero (a b : Nibble) : decide (a - b = 0#4) = decide (a = b) := by
  rw [decide_eq_decide]
  exact sub_eq_zero

theorem increment_zero (v : Nibble) : decide (v + 1#4 = 0#4) = decide (v = 15#4) := by revert v; decide

theorem increment_noCarry (v : Nibble) : decide (v.toNat + (1#4).toNat < 16) = decide (v ≠ 15#4) := by revert v; decide

theorem decrement_noBorrow (v : Nibble) : decide ((1#4).toNat ≤ v.toNat) = decide (v ≠ 0#4) := by revert v; decide

theorem isz_difference (a b : Nibble) : isz (a - b) = decide (a = b) := by rw [isz_eq, difference_zero]

theorem not_isz (v : Nibble) : (!isz v) = decide (v ≠ 0#4) := by rw [isz_eq, decide_not]

theorem compareOperands_eq (s : State) (n : Nat) (first second : Nibble) :
    compareOperands s n first second = .next { s with
      cf := decide (second.toNat ≤ first.toNat), zf := decide (first = second), sf := decide (first ≠ second),
      pc := s.pc + BitVec.ofNat 14 n } := by
  simp only [compareOperands, sub4_false, isz_difference, decide_not]
  rfl

theorem compareRegister_eq (s : State) (n : Nat) (k reg : Nibble) :
    compareRegister s n k reg = .next { s with
      zf := decide (k = reg), sf := decide (reg.toNat ≤ k.toNat), pc := s.pc + BitVec.ofNat 14 n } := by
  simp only [compareRegister, sub4_false, isz_difference]
  rfl

/-! ### Addresses (20_memory.md R61, R65, R66) -/

@[simp] theorem zeroPage_toNat (y : Nibble) : (zeroPage y).toNat = y.toNat := by revert y; decide

@[simp] theorem portOf_toNat (p : Nibble) : (portOf p).toNat = p.toNat := by revert p; decide

theorem State.hl_toNat (s : State) : s.hl.toNat = 16 * s.hr.toNat + s.lr.toNat := by
  rw [State.hl, toNat_append_eq]
  omega

theorem lrPort_of_toNat {s : State} {q : PortNo} (h : q.toNat = 4 + s.lr.toNat / 4) : s.lrPort = q := by
  have hlr : ∀ v : Nibble, (4#5 + (v.extractLsb' 2 2).setWidth 5).toNat = 4 + v.toNat / 4 := by decide
  exact BitVec.eq_of_toNat_eq ((hlr s.lr).trans h.symm)

theorem State.lrBit_toNat (s : State) : s.lrBit.toNat = s.lr.toNat % 4 := by
  rw [State.lrBit, BitVec.extractLsb'_toNat, Nat.shiftRight_zero]

theorem pairAligned_iff (x : DataAddr) : pairAligned x = true ↔ x.toNat % 4 = 0 := by revert x; decide

/-- The second address of an aligned pair. -/
theorem aligned_succ_toNat {x : DataAddr} (h : x.toNat % 4 = 0) : (x + 1#8).toNat = x.toNat + 1 := by
  have hx := x.isLt
  rw [BitVec.toNat_add, BitVec.toNat_ofNat]
  omega

theorem State.out12Addr_eq (s : State) (m : Nibble) :
    s.out12Addr m = s.params.chip.romSize - 32 + 16 * s.cf.toNat + m.toNat := by
  rw [State.out12Addr, toNat_append_eq, BitVec.toNat_ofBool]
  omega

/-- The OUT12 table is the last 32 bytes of program memory. -/
theorem State.out12Addr_lt (s : State) (m : Nibble) : s.out12Addr m < s.params.chip.romSize := by
  have hm := m.isLt
  have hrom : 32 ≤ s.params.chip.romSize := by cases s.params.chip <;> decide
  have hcf := s.cf.toNat_lt
  rw [State.out12Addr_eq]
  omega

/-- Outside the window an address byte names no register part. -/
theorem specialAt_eq_none {x : DataAddr} (h : x.toNat < 0xF4 ∨ x = 0xF7#8 ∨ x = 0xFB#8) : specialAt x = none := by
  revert x; decide

theorem specialAt_of_validData {s : State} {x : DataAddr} (h : s.validData x = true) : specialAt x = none := by
  have hx := ((State.validData_iff s x).1 h).2
  exact specialAt_eq_none (.inl (by omega))

end Sys2Proof.Machine
end

section
/-! SUPPORT AND PROOF. The meanings of the arithmetic, logic and compare instructions: each reads its
operands and ends in one of the shared ways, with its result and flags. -/

namespace Sys2Proof.Machine

/-- Settles O15: each is a sum or difference put into its register, with the flags of `add4_false` or `sub4_false`. -/
theorem arithmeticOnRegister : Obligations.ArithmeticOnRegister := by
  intro s k
  refine ⟨?_, ?_, ?_, ?_, ?_, ?_, ?_, ?_⟩
  · simp only [exec, execAdda, add4_false, not_carry, resultToAcc_eq]
  · simp only [exec, execAddah, add4_false, not_carry, resultToHr_eq]
  · simp only [exec, execAddl, add4_false, not_carry, resultToLr_eq]
  · simp only [exec, execInca, add4_false, not_carry, resultToAcc_eq, increment_zero, increment_noCarry]
  · simp only [exec, execIncl, add4_false, not_carry, resultToLr_eq, increment_zero, increment_noCarry]
  · simp only [exec, execSuba, sub4_false, resultToAcc_eq, difference_zero]
  · simp only [exec, execDeca, sub4_false, resultToAcc_eq, difference_zero, decrement_noBorrow]
  · simp only [exec, execDecl, sub4_false, resultToLr_eq, difference_zero, decrement_noBorrow]

/-- Settles O16: the cell is read, and the sum or difference with CF goes into Acc. -/
theorem memoryIntoAccumulator : Obligations.MemoryIntoAccumulator := by
  intro s m h
  refine ⟨?_, ?_, ?_⟩
  · simp only [exec, execAdcam, orFault_memRead h, add4_fst, add4_snd, not_carry, resultToAcc_eq, State.setCf]
  · simp only [exec, execAddam, orFault_memRead h, add4_false, not_carry, resultToAcc_eq]
  · simp only [exec, execSbcam, orFault_memRead h, sub4_fst, sub4_snd, resultToAcc_eq, State.setCf]

/-- Settles O17: the cell is read and written back with the sum or difference; `Memory.write_spec` is its frame. -/
theorem arithmeticOnCell : Obligations.ArithmeticOnCell := by
  intro s k m
  refine ⟨fun y h => ⟨_, ?_, zeroPage_toNat y ▸ Memory.write_spec s.ram (zeroPage y).toNat _⟩, fun h =>
    ⟨⟨_, ?_, Memory.write_spec _ _ _⟩, ⟨_, ?_, Memory.write_spec _ _ _⟩, ⟨_, ?_, Memory.write_spec _ _ _⟩,
      ⟨_, ?_, Memory.write_spec _ _ _⟩⟩⟩
  · simp only [exec, execAdd, orFault_memRead h, add4_false, not_carry, resultToCell_eq h.1, zeroPage_toNat]
  · simp only [exec, execAddm, orFault_memRead h, add4_false, not_carry, resultToCell_eq h.1]
  · simp only [exec, execIncm, orFault_memRead h, add4_false, not_carry, resultToCell_eq h.1, increment_zero, increment_noCarry]
  · simp only [exec, execSubm, orFault_memRead h, sub4_false, resultToCell_eq h.1, difference_zero]
  · simp only [exec, execDecm, orFault_memRead h, sub4_false, resultToCell_eq h.1, difference_zero, decrement_noBorrow]

theorem xor_zero_eq (a b : Nibble) : decide (a ^^^ b = 0#4) = decide (a = b) := by
  rw [decide_eq_decide]
  exact BitVec.xor_eq_zero_iff

/-- Settles O18: SF is the inverse of the new ZF in all seven. -/
theorem bitwiseLogic : Obligations.BitwiseLogic := by
  intro s k m
  refine ⟨?_, ?_, fun h => ⟨?_, ?_, ?_, ⟨_, ?_, Memory.write_spec _ _ _⟩, ⟨_, ?_, Memory.write_spec _ _ _⟩⟩⟩
  · simp only [exec, execAnda, not_isz, resultToAcc_eq]
  · simp only [exec, execOra, not_isz, resultToAcc_eq]
  · simp only [exec, execAndam, orFault_memRead h, not_isz, resultToAcc_eq]
  · simp only [exec, execOram, orFault_memRead h, not_isz, resultToAcc_eq]
  · simp only [exec, execXoram, orFault_memRead h, isz_eq, resultToAcc_eq, xor_zero_eq, decide_not]
  · simp only [exec, execAndm, orFault_memRead h, not_isz, resultToCell_eq h.1]
  · simp only [exec, execOrm, orFault_memRead h, not_isz, resultToCell_eq h.1]

/-! ### The rotates -/

/-- Acc after RLCA: CF enters at bit 0. -/
def rotatedLeft (v : Nibble) (c : Bool) : Nibble := v.extractLsb' 0 3 ++ BitVec.ofBool c

/-- Acc after RRCA: CF enters at bit 3. -/
def rotatedRight (v : Nibble) (c : Bool) : Nibble := BitVec.ofBool c ++ v.extractLsb' 1 3

theorem rotatedLeft_eq (v : Nibble) (c : Bool) : rotatedLeft v c = (v <<< 1) ||| (BitVec.ofBool c).setWidth 4 := by
  revert v c; decide

theorem rotatedRight_eq (v : Nibble) (c : Bool) : rotatedRight v c = (v >>> 1) ||| ((BitVec.ofBool c).setWidth 4 <<< 3) := by
  revert v c; decide

theorem exec_rlca (s : State) : exec .rlca s = .next { s with
    acc := rotatedLeft s.acc s.cf, cf := s.acc.getLsbD 3, zf := decide (rotatedLeft s.acc s.cf = 0#4), sf := !s.acc.getLsbD 3,
    pc := s.pc + 1#14 } :=
  resultToAcc_eq (s.setCf (s.acc.getLsbD 3)) 1 (rotatedLeft s.acc s.cf) (!s.acc.getLsbD 3)

theorem exec_rrca (s : State) : exec .rrca s = .next { s with
    acc := rotatedRight s.acc s.cf, cf := s.acc.getLsbD 0, zf := decide (rotatedRight s.acc s.cf = 0#4), sf := !s.acc.getLsbD 0,
    pc := s.pc + 1#14 } :=
  resultToAcc_eq (s.setCf (s.acc.getLsbD 0)) 1 (rotatedRight s.acc s.cf) (!s.acc.getLsbD 0)

/-- Settles O19: the ring put together from its fields is the shift with CF at the free end. -/
theorem rotateThroughCarry : Obligations.RotateThroughCarry := by
  intro s
  rw [exec_rlca, exec_rrca, rotatedLeft_eq, rotatedRight_eq]
  exact ⟨rfl, rfl⟩

/-- The ring of five bits, turned by one place to the left. -/
def turnLeft (r : Nibble × Bool) : Nibble × Bool := (rotatedLeft r.1 r.2, r.1.getLsbD 3)

/-- The ring of five bits, turned by one place to the right. -/
def turnRight (r : Nibble × Bool) : Nibble × Bool := (rotatedRight r.1 r.2, r.1.getLsbD 0)

theorem turnLeft_five (r : Nibble × Bool) : turnLeft (turnLeft (turnLeft (turnLeft (turnLeft r)))) = r := by
  obtain ⟨v, c⟩ := r
  revert v c; decide

theorem turnRight_five (r : Nibble × Bool) : turnRight (turnRight (turnRight (turnRight (turnRight r)))) = r := by
  obtain ⟨v, c⟩ := r
  revert v c; decide

theorem turnRight_turnLeft (r : Nibble × Bool) : turnRight (turnLeft r) = r := by
  obtain ⟨v, c⟩ := r
  revert v c; decide

/-- The ring that Acc and CF make. -/
def State.ring (s : State) : Nibble × Bool := (s.acc, s.cf)

theorem exec_rlca_ring (s : State) : ∃ t, exec .rlca s = .next t ∧ t.ring = turnLeft s.ring := ⟨_, exec_rlca s, rfl⟩

theorem exec_rrca_ring (s : State) : ∃ t, exec .rrca s = .next t ∧ t.ring = turnRight s.ring := ⟨_, exec_rrca s, rfl⟩

theorem State.ring_eq_iff (s t : State) : t.ring = s.ring ↔ t.acc = s.acc ∧ t.cf = s.cf := Prod.mk.injEq _ _ _ _ ▸ Iff.rfl

/-- Settles O20: each rotate runs and turns the ring by one place. -/
theorem rotatesAreARing : Obligations.RotatesAreARing := by
  intro s
  refine ⟨?_, ?_, ?_⟩
  · obtain ⟨a, ha, hra⟩ := exec_rlca_ring s
    obtain ⟨b, hb, hrb⟩ := exec_rlca_ring a
    obtain ⟨c, hc, hrc⟩ := exec_rlca_ring b
    obtain ⟨d, hd, hrd⟩ := exec_rlca_ring c
    obtain ⟨t, ht, hrt⟩ := exec_rlca_ring d
    rw [hrd, hrc, hrb, hra, turnLeft_five] at hrt
    exact ⟨a, b, c, d, t, ha, hb, hc, hd, ht, (State.ring_eq_iff s t).1 hrt⟩
  · obtain ⟨a, ha, hra⟩ := exec_rrca_ring s
    obtain ⟨b, hb, hrb⟩ := exec_rrca_ring a
    obtain ⟨c, hc, hrc⟩ := exec_rrca_ring b
    obtain ⟨d, hd, hrd⟩ := exec_rrca_ring c
    obtain ⟨t, ht, hrt⟩ := exec_rrca_ring d
    rw [hrd, hrc, hrb, hra, turnRight_five] at hrt
    exact ⟨a, b, c, d, t, ha, hb, hc, hd, ht, (State.ring_eq_iff s t).1 hrt⟩
  · obtain ⟨a, ha, hra⟩ := exec_rlca_ring s
    obtain ⟨t, ht, hrt⟩ := exec_rrca_ring a
    rw [hra, turnRight_turnLeft] at hrt
    exact ⟨a, t, ha, ht, (State.ring_eq_iff s t).1 hrt⟩

/-- Settles O21: every compare is `compareOperands` or `compareRegister` of its two operands. -/
theorem compares : Obligations.Compares := by
  intro s k m
  refine ⟨fun y h => ?_, fun x h => ?_, fun h => ?_, compareOperands_eq s 1 k s.acc, compareRegister_eq s 2 k s.hr,
    compareRegister_eq s 2 k s.lr⟩
  · exact (orFault_memRead h _).trans (compareOperands_eq s 2 k m)
  · exact (orFault_memRead h _).trans (compareOperands_eq s 2 m s.acc)
  · exact (orFault_memRead h _).trans (compareOperands_eq s 1 m s.acc)

end Sys2Proof.Machine
end

section
/-! SUPPORT AND PROOF. The meanings of the loads, stores, exchanges, bit and port instructions. -/

namespace Sys2Proof.Machine

/-! ### Loads -/

/-- Settles O22: format F1K, the three endings, and the first byte of a fetch. -/
theorem loadImmediate : Obligations.LoadImmediate := by
  refine ⟨fun s k rest => ?_, fun s h => State.fetch_of_romRead_error (State.romRead_outside h),
    fun s hlt hn => State.fetch_of_romRead_error (State.romRead_undefined hlt hn)⟩
  obtain ⟨hldl, hldh, -, -, hldia, -⟩ := decode_immediateNibble s.params k rest
  exact ⟨⟨hldh, rfl, rfl⟩, ⟨hldia, rfl, resultToAcc_eq s 1 k true⟩, ⟨hldl, rfl, rfl⟩⟩

/-- LDA outside the window reads data memory (42_lbr_to_ldl.md R241). -/
theorem exec_lda_of_not_special {x : DataAddr} (h : specialAt x = none) (s : State) :
    exec (.lda x) s = orFault (s.memRead x) fun m => resultToAcc s 2 m true := by
  simp only [exec, execLda, h]

/-- STA outside the window writes data memory (44_slbr_to_subm.md R279). -/
theorem exec_sta_of_not_special {x : DataAddr} (h : specialAt x = none) (s : State) : exec (.sta x) s = storeCell s 2 x s.acc := by
  simp only [exec, execSta, h]

/-- Settles O23: a valid address is no window address, so LDA reads the cell. -/
theorem loadFromCell : Obligations.LoadFromCell := by
  intro s m
  refine ⟨fun x h => ?_, fun h => ?_⟩
  · rw [exec_lda_of_not_special (specialAt_of_validData h.1), orFault_memRead h, resultToAcc_eq]
  · exact (orFault_memRead h _).trans (resultToAcc_eq s 1 m true)

/-- Settles O24: each of the ten is the load of its register part. -/
theorem loadFromRegister : Obligations.LoadFromRegister := by
  intro s
  refine ⟨fun i v hi => ?_, resultToAcc_eq s 1 s.hr true, resultToAcc_eq s 1 s.lr true⟩
  simp only [List.mem_cons, Prod.mk.injEq, List.not_mem_nil, or_false] at hi
  rcases hi with ⟨rfl, rfl⟩ | ⟨rfl, rfl⟩ | ⟨rfl, rfl⟩ | ⟨rfl, rfl⟩ | ⟨rfl, rfl⟩ | ⟨rfl, rfl⟩ | ⟨rfl, rfl⟩ | ⟨rfl, rfl⟩ | ⟨rfl, rfl⟩ |
    ⟨rfl, rfl⟩ <;>
    exact loadSpecial_eq s _

/-- LDHL and EXHL with an aligned address read the two cells, L's first (42_lbr_to_ldl.md R256, 41_deca_to_inm.md R233). -/
theorem exec_ldhl_of_aligned {x : DataAddr} (h : x.toNat % 4 = 0) (s : State) :
    exec (.ldhl x) s = orFault (s.memRead x) fun l => orFault (s.memRead (x + 1#8)) fun v => finish ((s.setLr l).setHr v) 2 true :=
  if_pos ((pairAligned_iff x).2 h)

theorem exec_exhl_of_aligned {x : DataAddr} (h : x.toNat % 4 = 0) (s : State) :
    exec (.exhl x) s = orFault (s.memRead x) fun l => orFault (s.memRead (x + 1#8)) fun v =>
      orFault (s.memWrite x s.lr) fun t => orFault (t.memWrite (x + 1#8) s.hr) fun u => finish ((u.setLr l).setHr v) 2 true :=
  if_pos ((pairAligned_iff x).2 h)

/-- Settles O25: the second store is next to the first and does not disturb it. -/
theorem pointerPairLoadAndExchange : Obligations.PointerPairLoadAndExchange := by
  intro s x l h hx hl hh
  have hsucc := aligned_succ_toNat hx
  refine ⟨?_, (s.ram.write x.toNat s.lr).write (x.toNat + 1) s.hr, ?_, ?_, Memory.read_write_same _ _ _, fun b hb hb' => ?_⟩
  · rw [exec_ldhl_of_aligned hx, orFault_memRead hl, orFault_memRead hh, finish_eq]
    rfl
  · have hvalid : { s with ram := s.ram.write x.toNat s.lr }.validData (x + 1#8) = true := hh.1
    rw [exec_exhl_of_aligned hx, orFault_memRead hl, orFault_memRead hh, orFault_memWrite hl.1, orFault_memWrite hvalid, finish_eq, ← hsucc]
    rfl
  · rw [Memory.read_write_other _ _ _ (by omega), Memory.read_write_same]
  · rw [Memory.read_write_other _ _ _ hb', Memory.read_write_other _ _ _ hb]

/-! The table read of LDAX and LDAXI (20_memory.md R65, decision D20). -/

/-- Where the table byte of a DP stands. -/
def tableByteAddr (s : State) : Nat := s.dp.toNat + (if s.params.chip = .rom8K then 0x1000 else 0)

theorem tableRead_of_inTable {s : State} (h : s.params.chip = .rom2K → s.dp.toNat < 0x800) :
    s.tableRead = s.romRead (tableByteAddr s) ∧ tableByteAddr s < s.params.chip.romSize := by
  have hdp := s.dp.isLt
  cases hc : s.params.chip with
  | rom2K =>
    have hlt := h hc
    have haddr : tableByteAddr s = s.dp.toNat := by simp [tableByteAddr, hc]
    rw [haddr]
    exact ⟨by simp [State.tableRead, State.tableAddr, hc, hlt], hlt⟩
  | rom4K =>
    have haddr : tableByteAddr s = s.dp.toNat := by simp [tableByteAddr, hc]
    rw [haddr]
    exact ⟨by simp [State.tableRead, State.tableAddr, hc], hdp⟩
  | rom8K =>
    have haddr : tableByteAddr s = 0x1000 + s.dp.toNat := by simp [tableByteAddr, hc, Nat.add_comm]
    rw [haddr]
    exact ⟨by simp [State.tableRead, State.tableAddr, hc], by simp only [Chip.romSize]; omega⟩

theorem tableRead_outside {s : State} (hc : s.params.chip = .rom2K) (h : 0x800 ≤ s.dp.toNat) :
    s.tableRead = .error (.programAddress s.dp.toNat) := by
  simp [State.tableRead, State.tableAddr, hc, Nat.not_lt.2 h]

theorem exec_ldax (s : State) : exec .ldax s = orFault s.tableRead fun b => resultToAcc s 1 (b.extractLsb' 0 4) true := rfl

theorem exec_ldaxi (s : State) :
    exec .ldaxi s = orFault s.tableRead fun b => resultToAcc (s.setDp (s.dp + 1#12)) 1 (b.extractLsb' 4 4) true := rfl

theorem nibbles_zero (b : Byte) : decide (b.extractLsb' 0 4 = 0#4) = decide (b.toNat % 16 = 0) ∧
    decide (b.extractLsb' 4 4 = 0#4) = decide (b.toNat < 16) := by
  revert b; decide

/-- Settles O26: the table byte is read inside program memory, or DP is past the 2K chip's table. -/
theorem tableLoads : Obligations.TableLoads := by
  rintro s a rfl
  refine ⟨fun b hin hb => ?_, fun hin hn => ?_, fun hc hout => ?_⟩
  · obtain ⟨hread, hlt⟩ := tableRead_of_inTable hin
    obtain ⟨hlow, hhigh⟩ := nibbles_zero b
    rw [exec_ldax, exec_ldaxi, hread, orFault_romRead hlt hb, orFault_romRead hlt hb, resultToAcc_eq, resultToAcc_eq, hlow, hhigh]
    exact ⟨rfl, rfl⟩
  · obtain ⟨hread, hlt⟩ := tableRead_of_inTable hin
    rw [exec_ldax, exec_ldaxi, hread, State.romRead_undefined hlt hn]
    exact ⟨rfl, rfl⟩
  · rw [exec_ldax, exec_ldaxi, tableRead_outside hc hout]
    exact ⟨rfl, rfl⟩

/-! ### Stores and exchanges -/

/-- Settles O27: a valid address is no window address, so STA writes the cell; `Memory.write_spec` is its frame. -/
theorem storeToCell : Obligations.StoreToCell := by
  refine fun s => ⟨fun x h => ⟨_, ?_, Memory.write_spec _ _ _⟩, fun h => ⟨_, storeCell_eq h 1 s.acc, Memory.write_spec _ _ _⟩,
    fun k y h => ⟨_, storeCell_eq h 2 k, ?_⟩⟩
  · rw [exec_sta_of_not_special (specialAt_of_validData h), storeCell_eq h]
  · rw [zeroPage_toNat]
    exact Memory.write_spec _ _ _

/-- Settles O28: the store is at the old HL, and LR's step gives SF. -/
theorem storeThenStepPointer : Obligations.StoreThenStepPointer := by
  refine fun s k h => ⟨⟨_, ?_, Memory.write_spec _ _ _⟩, ⟨_, ?_, Memory.write_spec _ _ _⟩, ⟨_, ?_, Memory.write_spec _ _ _⟩⟩
  · simp only [exec, execStamd, sub4_false, storeThenStep_eq h, decrement_noBorrow]
  · simp only [exec, execStami, add4_false, not_carry, storeThenStep_eq h, increment_noCarry]
  · simp only [exec, execStdmi, add4_false, not_carry, storeThenStep_eq h, increment_noCarry]

/-- The nibbles a part store keeps stand together. -/
theorem withParts_eq (t : Triple) (v : Nibble) :
    withLow t v = t.extractLsb' 4 8 ++ v ∧ withMid t v = t.extractLsb' 8 4 ++ v ++ t.extractLsb' 0 4 ∧
      withHigh t v = v ++ t.extractLsb' 0 8 := by
  refine ⟨?_, rfl, ?_⟩
  · rw [withLow, highNibble, midNibble, BitVec.extractLsb'_append_extractLsb'_eq_extractLsb' (by decide)]
  · rw [withHigh, BitVec.append_assoc, midNibble, lowNibble, BitVec.extractLsb'_append_extractLsb'_eq_extractLsb' (by decide)]
    rfl

/-- Settles O29: each of the ten is the store of its register part. -/
theorem storeToRegister : Obligations.StoreToRegister := by
  intro s
  obtain ⟨hdpl, hdpm, hdph⟩ := withParts_eq s.dp s.acc
  obtain ⟨htal, htam, htah⟩ := withParts_eq s.ta s.acc
  obtain ⟨htbl, htbm, htbh⟩ := withParts_eq s.tb s.acc
  simp only [← hdpl, ← hdpm, ← hdph, ← htal, ← htam, ← htah, ← htbl, ← htbm, ← htbh]
  exact ⟨rfl, rfl, rfl, rfl, rfl, rfl, rfl, rfl, rfl, rfl⟩

/-- Settles O30: the address byte selects the special-register form in `exec` and in the decoder alike. -/
theorem windowAddressesAreRegisters : Obligations.WindowAddressesAreRegisters := by
  intro s x load store h
  simp only [List.mem_cons, Prod.mk.injEq, List.not_mem_nil, or_false] at h
  rcases h with ⟨rfl, rfl, rfl⟩ | ⟨rfl, rfl, rfl⟩ | ⟨rfl, rfl, rfl⟩ | ⟨rfl, rfl, rfl⟩ | ⟨rfl, rfl, rfl⟩ | ⟨rfl, rfl, rfl⟩ |
    ⟨rfl, rfl, rfl⟩ | ⟨rfl, rfl, rfl⟩ | ⟨rfl, rfl, rfl⟩ | ⟨rfl, rfl, rfl⟩ <;>
    exact ⟨rfl, rfl, rfl, rfl⟩

/-- Settles O31: the memory forms are `exchangeCell`, the register forms write both registers. -/
theorem exchanges : Obligations.Exchanges := by
  intro s m
  exact ⟨fun x h => ⟨_, exchangeCell_eq h 2, Memory.write_spec _ _ _⟩, fun h => ⟨_, exchangeCell_eq h 1, Memory.write_spec _ _ _⟩,
    resultToAcc_eq (s.setHr s.acc) 1 s.hr true, resultToAcc_eq (s.setLr s.acc) 1 s.lr true, rfl⟩

/-- Settles O57: the cell by `Memory.read_write_same`, every other by `Memory.read_write_other`. -/
theorem memoryReadAfterWrite : Obligations.MemoryReadAfterWrite := by
  intro s t a v h
  obtain ⟨ha, rfl⟩ := State.memWrite_ok_iff.1 h
  refine ⟨State.memRead_of_cellHolds ⟨ha, Memory.read_write_same _ _ _⟩, fun b hb => ?_⟩
  have hother : (s.setRam (s.ram.write a.toNat v)).ram.read b.toNat = s.ram.read b.toNat :=
    Memory.read_write_other _ _ _ fun he => hb (BitVec.eq_of_toNat_eq he)
  unfold State.memRead
  rw [hother]
  rfl

/-! ### Bits and flags -/

/-- Settles O33: all four are `updateCell` with one bit cleared or set. -/
theorem bitsOfCells : Obligations.BitsOfCells := by
  refine fun s m b => ⟨fun h => ⟨⟨_, updateCell_eq h 1 _, Memory.write_spec _ _ _⟩, ⟨_, updateCell_eq h 1 _, Memory.write_spec _ _ _⟩⟩,
    fun y h => ⟨⟨_, updateCell_eq h 2 _, ?_⟩, ⟨_, updateCell_eq h 2 _, ?_⟩⟩⟩ <;>
    rw [zeroPage_toNat] <;> exact Memory.write_spec _ _ _

/-- Settles O34: all six end with `finish`, the memory forms after a read. -/
theorem testsIntoStatusFlag : Obligations.TestsIntoStatusFlag := fun s _ _ =>
  ⟨rfl, fun h => (orFault_memRead h _).trans (finish_eq s 1 _), fun _ h => (orFault_memRead h _).trans (finish_eq s 2 _), rfl, rfl, rfl⟩

theorem Chip.hasGf_of_ne_rom8K {c : Chip} (h : c ≠ .rom8K) : c.hasGf = true := by
  cases c with
  | rom8K => exact absurd rfl h
  | rom2K | rom4K => rfl

/-- Settles O35: HAS_GF decides between the two clauses. -/
theorem generalFlag : Obligations.GeneralFlag := by
  refine fun s => ⟨fun hc => ?_, fun hc => ?_⟩
  · have hgf := Chip.hasGf_of_ne_rom8K hc
    exact ⟨if_pos hgf, if_pos hgf, if_pos hgf⟩
  · have hgf : ¬s.params.chip.hasGf = true := by rw [hc]; decide
    exact ⟨if_neg hgf, if_neg hgf, if_neg hgf⟩

end Sys2Proof.Machine
end

section
/-! SUPPORT AND PROOF. The meanings of the port, control and interrupt-latch instructions. -/

namespace Sys2Proof.Machine

/-! ### Ports -/

/-- INM stores what the read of its port answered (41_deca_to_inm.md R238). -/
theorem exec_inm_of_readable {s : State} {p : Nibble} (h : s.readable (portOf p) = true) :
    exec (.inm p) s = orFault ((s.afterPortRead (portOf p)).memWrite s.hl (s.portInput (portOf p))) fun t =>
      finish t 2 (decide (s.portInput (portOf p) ≠ 0#4)) := by
  rw [← not_isz]
  exact orFault_portRead h _

theorem State.validData_afterPortRead (s : State) (p : PortNo) (a : DataAddr) : (s.afterPortRead p).validData a = s.validData a := rfl

/-- Settles O36: the value is the environment's answer to the next read. -/
theorem portReads : Obligations.PortReads := by
  refine fun s p b => ⟨fun hr => ⟨s.portInput (portOf p), rfl, ?_, ?_, ?_, fun hv => ⟨_, ?_, Memory.write_spec _ _ _⟩⟩,
    fun q hq hr => ⟨s.portInput q, rfl, ?_⟩⟩
  · simp only [exec, execIna, orFault_portRead hr, not_isz, resultToAcc_eq]
  · simp only [exec, execTfp, orFault_portRead hr, finish_eq, testBit]
  · simp only [exec, execTtp, orFault_portRead hr, finish_eq, testBit]
  · rw [exec_inm_of_readable hr, orFault_memWrite (by rwa [State.validData_afterPortRead]), finish_eq]
    rfl
  · rw [← lrPort_of_toNat hq] at hr ⊢
    simp only [exec, execTfpl, orFault_portRead hr, finish_eq, testBit, State.lrBit_toNat]

/-- What the output latches hold after one of them got a value (10_state.md R40). -/
theorem getElem_setLatch (o : Vector Nibble 32) (q : PortNo) (v : Nibble) (j : Fin 32) :
    (o.set q.toNat v)[j] = if j.val = q.toNat then v else o[j] := by
  simp only [Fin.getElem_fin, Vector.getElem_set, eq_comm]

/-- What they hold after a value was computed from the latch itself. -/
theorem getElem_updateLatch (s : State) (q : PortNo) (f : Nibble → Nibble) (j : Fin 32) :
    (s.portOut.set q.toNat (f (s.latch q)))[j] = if j.val = q.toNat then f s.portOut[j] else s.portOut[j] := by
  rw [getElem_setLatch]
  split
  · next h => simp only [State.latch, Fin.getElem_fin, h]
  · rfl

/-- Settles O37: one latch is set (`getElem_setLatch`), the others keep their values. -/
theorem portOutput : Obligations.PortOutput := by
  refine fun s k p q => ⟨fun hw => ⟨_, writePort_eq hw 2 k, fun j => ?_⟩, fun hw => ⟨_, writePort_eq hw 2 s.acc, getElem_setLatch _ q _⟩⟩
  rw [getElem_setLatch, portOf_toNat]

/-- SEP with p = 1..15 (43_nop_to_sgf.md R274). -/
theorem exec_sep_of_ne {p : Nibble} (hp : p ≠ 0#4) (b : BitNo) (s : State) :
    exec (.sep p b) s = writePort s 2 (portOf p) (setBit (s.latch (portOf p)) b) :=
  if_neg hp

/-- Settles O38: each writes the latch's own value with one bit changed. -/
theorem portBits : Obligations.PortBits := by
  refine fun s p b q => ⟨fun hw => ⟨⟨_, writePort_eq hw 2 _, fun j => ?_⟩,
    fun hp => ⟨_, (exec_sep_of_ne hp b s).trans (writePort_eq hw 2 _), fun j => ?_⟩⟩, fun hq hw => ?_⟩
  · rw [getElem_updateLatch s (portOf p) (clearBit · b), portOf_toNat]
    rfl
  · rw [getElem_updateLatch s (portOf p) (setBit · b), portOf_toNat]
    rfl
  · rw [← lrPort_of_toNat hq] at hw ⊢
    rw [← State.lrBit_toNat]
    exact ⟨⟨_, writePort_eq hw 1 _, getElem_updateLatch s s.lrPort (clearBit · s.lrBit)⟩,
      ⟨_, writePort_eq hw 1 _, getElem_updateLatch s s.lrPort (setBit · s.lrBit)⟩⟩

/-- OUT12 reads its operand before its table byte (43_nop_to_sgf.md R265). -/
theorem exec_out12_of_cellHolds {s : State} {m : Nibble} (h : s.cellHolds s.hl m) :
    exec .out12 s = orFault (s.romRead (s.out12Addr m)) fun b =>
      orFault (s.portWrite2 1#5 (b.extractLsb' 0 4) 2#5 (b.extractLsb' 4 4)) fun t => finish t 1 true :=
  orFault_memRead h _

/-- Settles O39: the table lies inside program memory, so only a byte the image does not define stops the read. -/
theorem tableDrivenOutput : Obligations.TableDrivenOutput := by
  intro s m a hm ha
  rw [← State.out12Addr_eq] at ha
  subst ha
  have hlt := State.out12Addr_lt s m
  rw [exec_out12_of_cellHolds hm]
  refine ⟨fun b hb h1 h2 => ⟨(s.portOut.set 1 (b.extractLsb' 0 4)).set 2 (b.extractLsb' 4 4), ?_, fun j => ?_⟩, fun hn => ?_⟩
  · exact (orFault_romRead hlt hb _).trans (orFault_portWrite2 h1 h2 _ _ _)
  · rw [show ((s.portOut.set 1 (b.extractLsb' 0 4)).set 2 (b.extractLsb' 4 4))[j] = _ from getElem_setLatch _ 2#5 _ j,
      show (s.portOut.set 1 (b.extractLsb' 0 4))[j] = _ from getElem_setLatch _ 1#5 _ j]
    by_cases h : j.val = 1
    · simp [h]
    · simp [h]
  · rw [State.romRead_undefined hlt hn, orFault_error]

/-! ### Control -/

/-- Settles O40: every branch is `branch_eq` with its target, whose page or bank is that of the next address. -/
theorem branches : Obligations.Branches := by
  refine fun s => ⟨fun a hpc => ⟨_, branch_eq s 1 _, ?_⟩, fun a hc => ?_, fun a hc hpc => ⟨lbrTarget .rom8K (s.next 2) a, ?_, ?_⟩,
    fun a hc => ?_⟩
  · rw [sbrTarget_toNat, State.next, BitVec.toNat_add, BitVec.toNat_ofNat]
    omega
  · rw [exec_lbr, branch_eq, lbrTarget_of_ne_rom8K hc]
  · rw [exec_lbr, branch_eq, hc]
  · rw [lbrTarget_toNat_rom8K, State.next, BitVec.toNat_add, BitVec.toNat_ofNat]
    omega
  · have hslbr : s.params.chip.hasSlbr = true := by rw [hc]; rfl
    exact if_pos hslbr

/-- Settles O41: both are `State.call_eq`. -/
theorem calls : Obligations.Calls := fun s =>
  ⟨fun a => ⟨_, congrArg Host.Outcome.next (State.call_eq s 2 (a.setWidth 14)), Memory.write_spec _ _ _⟩,
    fun n => ⟨_, _, congrArg Host.Outcome.next (State.call_eq s 1 (scallTarget n)), scallTarget_toNat n, Memory.write_spec _ _ _⟩⟩

/-- Settles O45: the frame equation says that the four leave SF. -/
theorem noOperation : Obligations.NoOperation := fun s =>
  ⟨fun _ => rfl, rfl, rfl, fun i t hk h => (statusFlagDiscipline i s t h).1 hk⟩

/-- Settles O46: the three mask the latches alike; two of them write EIF first. -/
theorem interruptLatches : Obligations.InterruptLatches := fun s r =>
  ⟨s.il &&& r, fun _ => BitVec.getLsbD_and, clearLatches_eq s r, clearLatches_eq (s.setEif false) r, clearLatches_eq (s.setEif true) r⟩

end Sys2Proof.Machine
end

section
/-! SUPPORT AND PROOF. Where instructions stop: reserved forms, addresses that are no data memory, cells that nothing has written, and
ports that cannot be read or written. -/

namespace Sys2Proof.Machine

/-! ### The accesses that do not go through -/

theorem State.portRead_fault {s : State} {p : PortNo} (h : s.readable p = false) : s.portRead p = .error (.portAccess p) := by
  simp [State.portRead, h]

theorem State.portWrite_fault {s : State} {p : PortNo} (h : s.writable p = false) (v : Nibble) :
    s.portWrite p v = .error (.portAccess p) := by
  simp [State.portWrite, h]

theorem writePort_fault {s : State} {p : PortNo} (h : s.writable p = false) (n : Nat) (v : Nibble) :
    writePort s n p v = .fault (.portAccess p) := by
  rw [writePort, State.portWrite_fault h, orFault_error]

/-! ### Which access an instruction begins with -/

/-- The instructions that begin by reading the cell at HL. -/
def readsHl : Instr → Bool
  | .adcam | .addam | .addm _ | .andam | .andm _ | .clm _ | .cmpm | .decm | .exam | .incm | .ldam | .oram | .orm _ | .out12 | .sbcam
  | .sem _ | .subm _ | .tfm _ | .xoram => true
  | _ => false

/-- The instructions that begin by writing the cell at HL. -/
def storesAtHl : Instr → Bool
  | .stam | .stamd | .stami | .stdmi _ => true
  | _ => false

/-- The instructions that begin by reading the zero-page cell y. -/
def readsZeroPage (y : Nibble) : Instr → Bool
  | .add _ y' | .clr y' _ | .cmp _ y' | .set y' _ | .tt y' _ => y' == y
  | _ => false

/-- The instructions that begin by reading port p. -/
def readsPortField (p : Nibble) : Instr → Bool
  | .ina p' | .inm p' | .tfp p' _ | .ttp p' _ => p' == p
  | _ => false

theorem exec_of_readsHl {i : Instr} (h : readsHl i = true) (s : State) : ∃ k, exec i s = orFault (s.memRead s.hl) k := by
  cases i
  case adcam | addam | addm | andam | andm | clm | cmpm | decm | exam | incm | ldam | oram | orm | out12 | sbcam | sem | subm | tfm |
      xoram =>
    exact ⟨_, rfl⟩
  all_goals cases h

theorem exec_of_storesAtHl {i : Instr} (h : storesAtHl i = true) (s : State) : ∃ v k, exec i s = orFault (s.memWrite s.hl v) k := by
  cases i
  case stam | stamd | stami | stdmi => exact ⟨_, _, rfl⟩
  all_goals cases h

theorem exec_of_readsZeroPage {i : Instr} {y : Nibble} (h : readsZeroPage y i = true) (s : State) :
    ∃ k, exec i s = orFault (s.memRead (zeroPage y)) k := by
  cases i
  case add _ y' | clr y' _ | cmp _ y' | set y' _ | tt y' _ =>
    obtain rfl : y' = y := by simpa [readsZeroPage] using h
    exact ⟨_, rfl⟩
  all_goals cases h

theorem exec_of_readsPortField {i : Instr} {p : Nibble} (h : readsPortField p i = true) (s : State) :
    ∃ k, exec i s = orFault (s.portRead (portOf p)) k := by
  cases i
  case ina p' | inm p' | tfp p' _ | ttp p' _ =>
    obtain rfl : p' = p := by simpa [readsPortField] using h
    exact ⟨_, rfl⟩
  all_goals cases h

/-- Whatever goes wrong with the read of HL is what the instruction answers. -/
theorem exec_fault_of_readsHl {s : State} {f : Fault} (hread : s.memRead s.hl = .error f) {i : Instr} (h : readsHl i = true) :
    exec i s = .fault f := by
  obtain ⟨k, hk⟩ := exec_of_readsHl h s
  rw [hk, hread, orFault_error]

theorem exec_fault_of_readsZeroPage {s : State} {y : Nibble} {f : Fault} (hread : s.memRead (zeroPage y) = .error f) {i : Instr}
    (h : readsZeroPage y i = true) : exec i s = .fault f := by
  obtain ⟨k, hk⟩ := exec_of_readsZeroPage h s
  rw [hk, hread, orFault_error]

/-- CMPA and EXA read their cell first, and so does LDA outside the window. -/
theorem exec_fault_of_direct {s : State} {x : DataAddr} {f : Fault} (hread : s.memRead x = .error f) :
    exec (.cmpa x) s = .fault f ∧ exec (.exa x) s = .fault f ∧ (specialAt x = none → exec (.lda x) s = .fault f) := by
  refine ⟨?_, ?_, fun hx => ?_⟩
  · show orFault (s.memRead x) _ = _
    rw [hread, orFault_error]
  · show orFault (s.memRead x) _ = _
    rw [hread, orFault_error]
  · rw [exec_lda_of_not_special hx, hread, orFault_error]

/-- LDHL and EXHL stop at the first of their two reads that fails. -/
theorem exec_fault_of_pair {s : State} {x : DataAddr} {f : Fault} (hx : x.toNat % 4 = 0)
    (hread : s.memRead x = .error f ∨ ∃ l, s.cellHolds x l ∧ s.memRead (x + 1#8) = .error f) :
    exec (.ldhl x) s = .fault f ∧ exec (.exhl x) s = .fault f := by
  rw [exec_ldhl_of_aligned hx, exec_exhl_of_aligned hx]
  rcases hread with hfirst | ⟨l, hl, hsecond⟩
  · rw [hfirst]
    exact ⟨rfl, rfl⟩
  · rw [orFault_memRead hl, orFault_memRead hl, hsecond]
    exact ⟨rfl, rfl⟩

/-! ### The statements -/

/-- Settles O48: each instruction is sorted by the access it begins with, and that access faults. -/
theorem invalidDataAddress : Obligations.InvalidDataAddress := by
  intro s k b
  refine ⟨State.hl_toNat s, zeroPage_toNat, State.validData_iff s, fun hinv => ⟨?_, fun p hr => ?_⟩, fun x hinv => ?_,
    fun x l hx hl hinv => ?_, fun y hinv => ?_⟩
  · have hread : ∀ i, readsHl i = true → exec i s = .fault (.dataAddress s.hl) := fun i hi =>
      exec_fault_of_readsHl (State.memRead_invalid hinv) hi
    have hstore : ∀ i, storesAtHl i = true → exec i s = .fault (.dataAddress s.hl) := fun i hi => by
      obtain ⟨v, k, hk⟩ := exec_of_storesAtHl hi s
      rw [hk, State.memWrite_invalid hinv, orFault_error]
    have hlist : ∀ i ∈ [Instr.adcam, .addam, .addm k, .andam, .andm k, .clm b, .cmpm, .decm, .exam, .incm, .ldam, .oram, .orm k, .out12,
        .sbcam, .sem b, .stam, .stamd, .stami, .stdmi k, .subm k, .tfm b, .xoram], readsHl i = true ∨ storesAtHl i = true := by
      simp [readsHl, storesAtHl]
    exact fun i hi => (hlist i hi).elim (hread i) (hstore i)
  · rw [exec_inm_of_readable hr, State.memWrite_invalid (by rwa [State.validData_afterPortRead]), orFault_error]
  · obtain ⟨hcmpa, hexa, hlda⟩ := exec_fault_of_direct (State.memRead_invalid hinv)
    refine ⟨hcmpa, hexa, fun hx => ⟨hlda (specialAt_eq_none hx), ?_⟩, fun hx => exec_fault_of_pair hx (.inl (State.memRead_invalid hinv))⟩
    rw [exec_sta_of_not_special (specialAt_eq_none hx), storeCell, State.memWrite_invalid hinv, orFault_error]
  · exact exec_fault_of_pair hx (.inr ⟨l, hl, State.memRead_invalid hinv⟩)
  · have hread : ∀ i, readsZeroPage y i = true → exec i s = .fault (.dataAddress (zeroPage y)) := fun i hi =>
      exec_fault_of_readsZeroPage (State.memRead_invalid hinv) hi
    have hstd : exec (.std k y) s = .fault (.dataAddress (zeroPage y)) := by
      show orFault (s.memWrite (zeroPage y) k) _ = _
      rw [State.memWrite_invalid hinv, orFault_error]
    have hlist : ∀ i ∈ [Instr.add k y, .clr y b, .cmp k y, .set y b, .std k y, .tt y b], readsZeroPage y i = true ∨ i = .std k y := by
      simp [readsZeroPage]
    exact fun i hi => (hlist i hi).elim (hread i) fun he => he ▸ hstd

/-- Settles O49: each instruction is sorted by the read it begins with, and that read faults. -/
theorem unwrittenCell : Obligations.UnwrittenCell := by
  intro s k b
  refine ⟨fun hv hn i hi => ?_, fun x hv hn => ⟨?_, fun hx => ?_⟩, fun x l hx hl hv hn => ?_, fun y hv hn i hi => ?_⟩
  · have hlist : ∀ i ∈ [Instr.adcam, .addam, .addm k, .andam, .andm k, .clm b, .cmpm, .decm, .exam, .incm, .ldam, .oram, .orm k, .out12,
        .sbcam, .sem b, .subm k, .tfm b, .xoram], readsHl i = true := by
      simp [readsHl]
    exact exec_fault_of_readsHl (State.memRead_unwritten hv hn) (hlist i hi)
  · obtain ⟨hcmpa, hexa, hlda⟩ := exec_fault_of_direct (State.memRead_unwritten hv hn)
    simpa using ⟨hcmpa, hexa, hlda (specialAt_of_validData hv)⟩
  · simpa using exec_fault_of_pair hx (.inl (State.memRead_unwritten hv hn))
  · rw [← aligned_succ_toNat hx] at hn
    simpa using exec_fault_of_pair hx (.inr ⟨l, hl, State.memRead_unwritten hv hn⟩)
  · have hlist : ∀ i ∈ [Instr.add k y, .clr y b, .cmp k y, .set y b, .tt y b], readsZeroPage y i = true := by
      simp [readsZeroPage]
    rw [← zeroPage_toNat] at hn
    exact exec_fault_of_readsZeroPage (State.memRead_unwritten hv hn) (hlist i hi)

/-- Settles O50: each instruction's first port access that cannot go through is the fault. -/
theorem portAccessFaults : Obligations.PortAccessFaults := by
  intro s k p b q
  refine ⟨portOf_toNat p, fun hr i hi => ?_, fun hw => ⟨writePort_fault hw 2 k, writePort_fault hw 2 _, fun hp => ?_⟩,
    fun hw => writePort_fault hw 2 s.acc, fun hq => ?_, fun m d hm hd => ?_⟩
  · have hlist : ∀ i ∈ [Instr.ina p, .inm p, .tfp p b, .ttp p b], readsPortField p i = true := by
      simp [readsPortField]
    obtain ⟨c, hc⟩ := exec_of_readsPortField (hlist i hi) s
    rw [hc, State.portRead_fault hr, orFault_error]
  · exact (exec_sep_of_ne hp b s).trans (writePort_fault hw 2 _)
  · rw [← lrPort_of_toNat hq]
    refine ⟨fun hr => ?_, fun hw => ⟨writePort_fault hw 1 _, writePort_fault hw 1 _⟩⟩
    show orFault (s.portRead s.lrPort) _ = _
    rw [State.portRead_fault hr, orFault_error]
  · rw [← State.out12Addr_eq] at hd
    rw [exec_out12_of_cellHolds hm, orFault_romRead (State.out12Addr_lt s m) hd]
    refine ⟨fun h1 => ?_, fun h1 h2 => ?_⟩
    · simp [State.portWrite2, h1]
    · simp [State.portWrite2, h1, h2]

/-- SLBR_PREFIX has a say in what 55h and 57h are, and in nothing else (30_encoding.md R103, R109). -/
theorem decode_without_slbrPrefix (p : Params) {b : Byte} (h55 : b ≠ 0x55#8) (h57 : b ≠ 0x57#8) (bs : List Byte) :
    decode p (b :: bs) = decode { p with slbrPrefix := none } (b :: bs) := by
  obtain ⟨h, l, rfl⟩ := exists_nibbles b
  simp only [decode, decodeFirst, hi4_append, lo4_append]
  split
  case h_2 =>
    simp only [decodeRow5, lo4_append]
    split
    case h_6 => exact absurd rfl h55
    case h_8 => exact absurd rfl h57
    all_goals rfl
  all_goals rfl

/-- What decodes to SLBR is well-formed, so the chip has it, and its first byte is one SLBR_PREFIX has a say in. -/
theorem firstByte_of_decode_slbr {p : Params} {b : Byte} {bs rest : List Byte} {a : BitVec 13}
    (h : decode p (b :: bs) = .instr (.slbr a) rest) : p.chip = .rom8K ∧ (b = 0x55#8 ∨ b = 0x57#8) := by
  have hwf := (decodedBytesAreTheEncoding p _ _ _ h).1
  have hchip : p.chip.hasSlbr = true := (Bool.and_eq_true_iff.1 hwf).1
  refine ⟨by cases hc : p.chip <;> simp_all [Chip.hasSlbr], ?_⟩
  by_contra hb
  rw [not_or] at hb
  rw [decode_without_slbrPrefix p hb.1 hb.2] at h
  have hpre := (Bool.and_eq_true_iff.1 (decodedBytesAreTheEncoding _ _ _ _ h).1).2
  cases hpre

/-- Settles O47: the checks of `exec` and of the decoder, and for SLBR what `firstByte_of_decode_slbr` says. -/
theorem reservedForms : Obligations.ReservedForms := by
  intro s
  refine ⟨fun b => ?_, fun x hx => ?_, fun a hc => ?_, fun b rest => ?_, fun x rest hx => ?_, fun b hb rest hne => ?_,
    fun rest hc => ?_, fun b hb rest hc hnone => ?_, fun b bs rest a h => firstByte_of_decode_slbr h⟩
  · show execSep 0#4 b s = _
    rw [execSep, if_pos rfl]
    rfl
  · have hx' : ¬pairAligned x = true := by rwa [pairAligned_iff]
    exact ⟨if_neg hx', if_neg hx'⟩
  · have hslbr : ¬s.params.chip.hasSlbr = true := by
      cases hchip : s.params.chip with
      | rom8K => exact absurd hchip hc
      | rom2K | rom4K => decide
    exact ⟨_, if_neg hslbr⟩
  · exact ⟨_, (decodePortBit_sep 0x6D#8 b 0#4 rest).trans (if_pos rfl)⟩
  · have hx' : ¬pairAligned x = true := by rwa [pairAligned_iff]
    exact ⟨.unalignedPair, if_neg hx', if_neg hx'⟩
  · have hread : decodeExae s.params b rest = .reserved .firstByte [b] := if_neg hne
    simp only [List.mem_cons, List.not_mem_nil, or_false] at hb
    rcases hb with rfl | rfl <;> exact ⟨_, hread⟩
  · have hgf : ¬s.params.chip.hasGf = true := by rw [hc]; decide
    exact ⟨_, if_neg hgf⟩
  · have hread : ∀ i, decodeGfOrSlbr s.params i b rest = .reserved .chip8K [b] := fun i => by
      simp [decodeGfOrSlbr, slbrBank, hc, hnone, Chip.hasGf]
    simp only [List.mem_cons, List.not_mem_nil, or_false] at hb
    rcases hb with rfl | rfl <;> exact ⟨_, hread _⟩

end Sys2Proof.Machine
end
